-- ==== Sys2Proof/Word.lean ====
section
/-! DEFINITION. The two value widths of the machine (spec 00_scope R11): `u8` and `u16`. -/

namespace Sys2Proof

/-- `u8`: an 8-bit unsigned value; bit 0 is the least significant (R11). -/
abbrev Byte := BitVec 8

/-- `u16`: a 16-bit unsigned value; every address is one (R11, R14). -/
abbrev Word := BitVec 16

end Sys2Proof
end

