-- ==== Sys2Proof/Machine/Bits.lean ====
section
/-! DEFINITION. The byte halves of a word and their concatenation (spec 00_scope R12, 10_state R23). -/

namespace Sys2Proof.Machine

/-- `hi : lo`, the word `(hi << 8) | lo` (R12, R23). -/
def joinBytes (hi lo : Byte) : Word := hi ++ lo

/-- `v[15:8]`. -/
def hiByte (v : Word) : Byte := v.extractLsb' 8 8

/-- `v[7:0]`. -/
def loByte (v : Word) : Byte := v.extractLsb' 0 8

end Sys2Proof.Machine
end

