-- ==== Sys2Proof/Config.lean ====
section
/-! DEFINITION. The open parameters of spec 00_scope R10: the settings a model takes as arguments, and the two
free values (no body: nothing can be proved of their values). -/

namespace Sys2Proof

/-- `P_UNDOC` (R10, R73, D2): how the 12 undocumented opcodes execute. -/
inductive UndocPolicy where
  /-- The default: the Unimplemented event and `PC + 1`. -/
  | unimplemented
  /-- The Intel part's duplicates of NOP, JMP, RET and CALL. -/
  | aliased
  deriving DecidableEq, Repr

/-- `P_AC_SUB` (R10, R95, D8): the auxiliary carry of subtract, compare and decrement. -/
inductive AcSub where
  /-- The default: AC is the borrow out of bit 3. -/
  | borrow
  /-- AC is the carry out of bit 3 of the complement addition. -/
  | intel
  deriving DecidableEq, Repr

/-- The two interrupt lines wired on the board (R166). -/
inductive IntLine where
  | midFrame | endFrame
  deriving DecidableEq, Repr

/-- The settings of the open parameters (R10). A machine has one setting for all its life; `State.cfg` carries
it to `exec` (assumption log 1) and no operation writes it. -/
structure Config where
  undoc    : UndocPolicy
  acSub    : AcSub
  /-- `P_INT_LINES`, the vector number of the mid-frame line (R166, D12). -/
  midFrame : BitVec 3
  /-- `P_INT_LINES`, the vector number of the end-of-frame line (R166, D12). -/
  endFrame : BitVec 3
  deriving DecidableEq, Repr

/-- `P_IN_UNMAPPED` (R10, R155, D13): the byte the `n`-th draw gives, under no law. A free value: no body
(assumption log 2). -/
opaque Config.portDraw : Nat → Byte

/-- `P_FW_PARTIAL` (R10, R177, D14): how many of the attempted writes a failed firmware load leaves, at the
`n`-th draw. A free value: no body (assumption log 2). -/
opaque Config.firmwarePrefix : Nat → Nat

end Sys2Proof
end

