-- ==== Sys2Proof/Machine/Params.lean ====
section
/-! DEFINITION. The default settings of the open parameters (spec 00_scope R10). -/

namespace Sys2Proof.Machine

/-- The spec's defaults: `P_UNDOC = unimplemented` (D2), `P_AC_SUB = borrow` (D8), `P_INT_LINES = {1, 2}` with the
mid-frame line first (D12, R166). -/
def defaultConfig : Config where
  undoc    := .unimplemented
  acSub    := .borrow
  midFrame := 1
  endFrame := 2

end Sys2Proof.Machine
end

