-- ==== Sys2Proof/Machine/State.lean ====
section
/-! DEFINITION. The state of the core (spec 10_state), why a step or a host call can be refused, and the state right
after construction. -/

namespace Sys2Proof.Machine

/-- The five condition flags (R27). -/
structure Flags where
  s  : Bool
  z  : Bool
  ac : Bool
  p  : Bool
  cy : Bool
  deriving DecidableEq, Repr

/-- One record of the error log: the opcode and its address (R36). -/
structure ErrRecord where
  op   : Byte
  addr : Word
  deriving DecidableEq, Repr

/-- The 65,536 bytes of `MEM` (R41), as the cells that do not hold `Memory.unlisted`, at strictly rising
addresses (`Memory.wf`). -/
abbrev Memory := List Host.Cell

/-- What an address with no cell holds: `MEM` is zero at construction and cleared by reset (R41, R180). -/
def Memory.unlisted : Byte := 0

/-- The complete state (R20), then the model's own two fields. -/
structure State where
  /-- The general registers (R21). -/
  b      : Byte
  c      : Byte
  d      : Byte
  e      : Byte
  h      : Byte
  l      : Byte
  /-- The accumulator (R21). -/
  a      : Byte
  /-- The stack pointer (R25). -/
  sp     : Word
  /-- The program counter (R26). -/
  pc     : Word
  flags  : Flags
  /-- The interrupt-enable latch (R31). -/
  ie     : Bool
  /-- The halt latch (R32). -/
  halt   : Bool
  /-- The input latches (R33). -/
  in1    : Byte
  in2    : Byte
  /-- The shift register (R34). -/
  shift  : Word
  /-- The shift-amount latch (R35). -/
  shamt  : BitVec 3
  mem    : Memory
  /-- `ERRLOG`, oldest record first (R36). -/
  errLog : List ErrRecord
  /-- The model's own: the settings of the open parameters, "arguments of the model" (R20, R10). No operation
  writes them (assumption log 1). -/
  cfg    : Config
  /-- The model's own: how many free values have been drawn (R17, R155, R177; assumption log 2). -/
  draws  : Nat
  deriving DecidableEq, Repr

/-- The state right after construction (R39, R181): the reset values of R38, no firmware, an empty log. The
host's own `reset`, which keeps the log and reloads the firmware, is `State.hostReset`. -/
def State.reset : State where
  b := 0
  c := 0
  d := 0
  e := 0
  h := 0
  l := 0
  a := 0
  sp := 0
  pc := 0
  flags := { s := false, z := false, ac := false, p := false, cy := false }
  ie := false
  halt := false
  in1 := 0
  in2 := 0
  shift := 0
  shamt := 0
  mem := []
  errLog := []
  cfg := defaultConfig
  draws := 0

/-- The core has no fault: "Nothing in the core throws or aborts the process" (R164), every address exists (R59)
and every read succeeds (R42). No constructor, so no meaning can raise one. -/
inductive Fault where
  deriving DecidableEq, Repr

/-- Why an instruction or a host call is refused. A refusal changes no state, so each is safe. -/
inductive Refusal where
  /-- Raised only by an arm of `exec` whose instruction has no meaning yet; there is none. Safe. -/
  | notModelled (mnemonic : String)
  /-- Raised by PUSH and POP of SP, a term that is not well-formed and that no bytes decode to: there is no
  `PUSH SP` and no `POP SP` (R145, R147). Safe. -/
  | noSuchPair (mnemonic : String)
  /-- Raised by the host's privileged write outside the protected region (R44). Safe. -/
  | callerError (addr : Word)
  /-- Raised by an interrupt request whose number is outside 0..7 (R167). Safe. -/
  | vectorOutOfRange (n : Nat)
  /-- Raised by a firmware load that is not four segments of 2 KiB (R177). The load may leave some of its bytes
  in the protected region. Safe: how many is a free value. -/
  | firmwareRejected
  deriving DecidableEq, Repr

end Sys2Proof.Machine
end

