-- ==== Sys2Proof/Machine/Mem.lean ====
section
/-! DEFINITION. The byte store (spec 20_memory R41) as a list of cells in canonical form, and the fixed region
table (R45). -/

namespace Sys2Proof.Machine

/-- The byte stored at the address numbered `k`. -/
def Memory.lookup : Memory → Nat → Byte
  | [], _ => Memory.unlisted
  | (k', v) :: m, k => if k' = k then v else Memory.lookup m k

/-- Store `v` at `k`, keeping the cells in rising order; the value an unlisted address reads as is not listed. -/
def Memory.store : Memory → Nat → Byte → Memory
  | [], k, v => if v = Memory.unlisted then [] else [(k, v)]
  | (k', v') :: m, k, v =>
    if k < k' then (if v = Memory.unlisted then (k', v') :: m else (k, v) :: (k', v') :: m)
    else if k = k' then (if v = Memory.unlisted then m else (k, v) :: m)
    else (k', v') :: Memory.store m k v

/-- The canonical form: strictly rising addresses inside the 64 KiB space, and no cell that holds what an
unlisted address reads as. Equal memories are then equal lists. -/
abbrev Memory.wf (m : Memory) : Prop :=
  m.Pairwise (fun x y => x.1 < y.1) ∧ ∀ x ∈ m, x.1 < 65536 ∧ x.2 ≠ Memory.unlisted

/-! ### Regions -/

/-- The four regions of the address space (R45). -/
inductive Region where
  | rom | wram | vram | ram
  deriving DecidableEq, Repr

/-- One row of the region table: the addresses in `[lo, hi)`. -/
structure RegionRow where
  region : Region
  lo     : Nat
  hi     : Nat
  deriving DecidableEq, Repr

/-- The region table (R45), fixed and not configurable. -/
def regionTable : List RegionRow :=
  [⟨.rom, 0x0000, 0x2000⟩, ⟨.wram, 0x2000, 0x2400⟩, ⟨.vram, 0x2400, 0x4000⟩, ⟨.ram, 0x4000, 0x10000⟩]

/-- The region an address lies in (R45). -/
def regionOf (x : Word) : Region :=
  if x.toNat < 0x2000 then .rom
  else if x.toNat < 0x2400 then .wram
  else if x.toNat < 0x4000 then .vram
  else .ram

/-- Whether ordinary writes to the address are dropped: exactly the ROM region (R43, R45). -/
def isProtected (x : Word) : Bool := decide (x.toNat < 0x2000)

/-! ### The access paths -/

/-- `MemRead(a, 1)`: always succeeds, no side effect (R42). -/
def Memory.read (m : Memory) (x : Word) : Byte := m.lookup x.toNat

/-- `MemWrite(a, 1, v)`: dropped in the protected region (R43). -/
def Memory.write (m : Memory) (x : Word) (v : Byte) : Memory :=
  if isProtected x then m else m.store x.toNat v

/-- `MemRead16(a)`: low byte at `a`, high byte at `a +16 1` (R46). -/
def Memory.read16 (m : Memory) (x : Word) : Word := joinBytes (m.read (x + 1)) (m.read x)

/-- `MemWrite16(a, v)`: each byte protected separately (R47). -/
def Memory.write16 (m : Memory) (x : Word) (v : Word) : Memory :=
  (m.write x (loByte v)).write (x + 1) (hiByte v)

/-- The bytes of the `n` addresses from `x` on. -/
def Memory.view (m : Memory) (x : Nat) (n : Nat) : List Byte :=
  (List.range n).map (fun k => m.lookup (x + k))

end Sys2Proof.Machine
end

