-- ==== Sys2Proof/Syntax.lean ====
section
/-! DEFINITION. The whole syntax: one constructor of `Instr` per row of spec/opcode_table.json. -/

namespace Sys2Proof

/-- The seven 8-bit registers (R21). Register code 6 names no register: it is the memory operand M (R22), which
the table gives rows of their own. -/
inductive Reg where
  | b | c | d | e | h | l | a
  deriving DecidableEq, Repr

/-- The 16-bit operands of LXI, INX, DCX and DAD: the pairs BC, DE, HL, and SP (R24, first table). PUSH and POP
take the first three only (`Instr.wellFormed`). -/
inductive Pair where
  | bc | de | hl | sp
  deriving DecidableEq, Repr

/-- The eight conditions of Jcc, Ccc and Rcc (R71). -/
inductive Cond where
  | nz | z | nc | c | po | pe | p | m
  deriving DecidableEq, Repr

/-- The instructions. An operand byte or word is the value assembled from bytes 2 and 3 (R70). -/
inductive Instr where
  -- Data transfer (spec 40_data_transfer)
  /-- `MOV r,r` (R77). -/
  | movRR (dst : Reg) (src : Reg)
  /-- `MOV r,M` (R78). -/
  | movRM (dst : Reg)
  /-- `MOV M,r` (R79). -/
  | movMR (src : Reg)
  /-- `MVI r,d8` (R80). -/
  | mviR (dst : Reg) (v : Byte)
  /-- `MVI M,d8` (R81). -/
  | mviM (v : Byte)
  /-- `LXI rp,d16` (R82). -/
  | lxi (p : Pair) (v : Word)
  /-- `STAX B` (R88). -/
  | staxB
  /-- `STAX D` (R88). -/
  | staxD
  /-- `LDAX B` (R87). -/
  | ldaxB
  /-- `LDAX D` (R87). -/
  | ldaxD
  /-- `SHLD a16` (R86). -/
  | shld (addr : Word)
  /-- `LHLD a16` (R85). -/
  | lhld (addr : Word)
  /-- `STA a16` (R84). -/
  | sta (addr : Word)
  /-- `LDA a16` (R83). -/
  | lda (addr : Word)
  /-- `XCHG` (R89). -/
  | xchg
  -- Arithmetic (spec 41_arithmetic)
  /-- `ADD r` (R96). -/
  | addR (src : Reg)
  /-- `ADD M` (R97). -/
  | addM
  /-- `ADI d8` (R98). -/
  | adi (v : Byte)
  /-- `ADC r` (R99). -/
  | adcR (src : Reg)
  /-- `ADC M` (R100). -/
  | adcM
  /-- `ACI d8` (R101). -/
  | aci (v : Byte)
  /-- `SUB r` (R102). -/
  | subR (src : Reg)
  /-- `SUB M` (R103). -/
  | subM
  /-- `SUI d8` (R104). -/
  | sui (v : Byte)
  /-- `SBB r` (R105). -/
  | sbbR (src : Reg)
  /-- `SBB M` (R106). -/
  | sbbM
  /-- `SBI d8` (R107). -/
  | sbi (v : Byte)
  /-- `INR r` (R108). -/
  | inrR (dst : Reg)
  /-- `INR M` (R109). -/
  | inrM
  /-- `DCR r` (R110). -/
  | dcrR (dst : Reg)
  /-- `DCR M` (R111). -/
  | dcrM
  /-- `INX rp` (R112). -/
  | inx (p : Pair)
  /-- `DCX rp` (R113). -/
  | dcx (p : Pair)
  /-- `DAD rp` (R114). -/
  | dad (p : Pair)
  /-- `DAA` (R115). -/
  | daa
  -- Logical, compare, rotate, carry (spec 42_logical)
  /-- `ANA r` (R116). -/
  | anaR (src : Reg)
  /-- `ANA M` (R117). -/
  | anaM
  /-- `ANI d8` (R118). -/
  | ani (v : Byte)
  /-- `XRA r` (R119). -/
  | xraR (src : Reg)
  /-- `XRA M` (R120). -/
  | xraM
  /-- `XRI d8` (R121). -/
  | xri (v : Byte)
  /-- `ORA r` (R122). -/
  | oraR (src : Reg)
  /-- `ORA M` (R123). -/
  | oraM
  /-- `ORI d8` (R124). -/
  | ori (v : Byte)
  /-- `CMP r` (R125). -/
  | cmpR (src : Reg)
  /-- `CMP M` (R126). -/
  | cmpM
  /-- `CPI d8` (R127). -/
  | cpi (v : Byte)
  /-- `RLC` (R128). -/
  | rlc
  /-- `RRC` (R129). -/
  | rrc
  /-- `RAL` (R130). -/
  | ral
  /-- `RAR` (R131). -/
  | rar
  /-- `CMA` (R132). -/
  | cma
  /-- `STC` (R134). -/
  | stc
  /-- `CMC` (R133). -/
  | cmc
  -- Control transfer (spec 43_branch)
  /-- `JMP a16` (R135). -/
  | jmp (addr : Word)
  /-- `JNZ a16` (R136). -/
  | jnz (addr : Word)
  /-- `JZ a16` (R136). -/
  | jz (addr : Word)
  /-- `JNC a16` (R136). -/
  | jnc (addr : Word)
  /-- `JC a16` (R136). -/
  | jc (addr : Word)
  /-- `JPO a16` (R136). -/
  | jpo (addr : Word)
  /-- `JPE a16` (R136). -/
  | jpe (addr : Word)
  /-- `JP a16` (R136). -/
  | jp (addr : Word)
  /-- `JM a16` (R136). -/
  | jm (addr : Word)
  /-- `CALL a16` (R137). -/
  | call (addr : Word)
  /-- `CNZ a16` (R138). -/
  | cnz (addr : Word)
  /-- `CZ a16` (R138). -/
  | cz (addr : Word)
  /-- `CNC a16` (R138). -/
  | cnc (addr : Word)
  /-- `CC a16` (R138). -/
  | cc (addr : Word)
  /-- `CPO a16` (R138). -/
  | cpo (addr : Word)
  /-- `CPE a16` (R138). -/
  | cpe (addr : Word)
  /-- `CP a16` (R138). -/
  | cp (addr : Word)
  /-- `CM a16` (R138). -/
  | cm (addr : Word)
  /-- `RET` (R139). -/
  | ret
  /-- `RNZ` (R140). -/
  | rnz
  /-- `RZ` (R140). -/
  | rz
  /-- `RNC` (R140). -/
  | rnc
  /-- `RC` (R140). -/
  | rc
  /-- `RPO` (R140). -/
  | rpo
  /-- `RPE` (R140). -/
  | rpe
  /-- `RP` (R140). -/
  | rp
  /-- `RM` (R140). -/
  | rm
  /-- `RST 0` (R141). -/
  | rst0
  /-- `RST 1` (R141). -/
  | rst1
  /-- `RST 2` (R141). -/
  | rst2
  /-- `RST 3` (R141). -/
  | rst3
  /-- `RST 4` (R141). -/
  | rst4
  /-- `RST 5` (R141). -/
  | rst5
  /-- `RST 6` (R141). -/
  | rst6
  /-- `RST 7` (R141). -/
  | rst7
  /-- `PCHL` (R142). -/
  | pchl
  -- Stack, I/O, machine control (spec 44_stack_io_control)
  /-- `HLT` (R162). -/
  | hlt
  /-- `PUSH rp` (R145). -/
  | push (p : Pair)
  /-- `PUSH PSW` (R146). -/
  | pushPsw
  /-- `POP rp` (R147). -/
  | pop (p : Pair)
  /-- `POP PSW` (R148). -/
  | popPsw
  /-- `XTHL` (R149). -/
  | xthl
  /-- `SPHL` (R150). -/
  | sphl
  /-- `OUT d8` (R156). -/
  | outp (port : Byte)
  /-- `IN d8` (R152). -/
  | inp (port : Byte)
  /-- `DI` (R161). -/
  | di
  /-- `EI` (R160). -/
  | ei
  /-- `NOP` (R163). -/
  | nop
  -- The 12 undocumented codes (spec 30_encoding R73, 60_exceptions R165)
  /-- `UNDOC 0x08` (R165). -/
  | undoc08
  /-- `UNDOC 0x10` (R165). -/
  | undoc10
  /-- `UNDOC 0x18` (R165). -/
  | undoc18
  /-- `UNDOC 0x20` (R165). -/
  | undoc20
  /-- `UNDOC 0x28` (R165). -/
  | undoc28
  /-- `UNDOC 0x30` (R165). -/
  | undoc30
  /-- `UNDOC 0x38` (R165). -/
  | undoc38
  /-- `UNDOC 0xCB` (R165). -/
  | undocCB
  /-- `UNDOC 0xD9` (R165). -/
  | undocD9
  /-- `UNDOC 0xDD` (R165). -/
  | undocDD
  /-- `UNDOC 0xED` (R165). -/
  | undocED
  /-- `UNDOC 0xFD` (R165). -/
  | undocFD
  deriving DecidableEq, Repr

end Sys2Proof
end

