-- ==== Sys2Proof/Machine/Ops.lean ====
section
/-! DEFINITION. The named operations over registers, memory, the stack and the program counter; accepting an
interrupt, the return from it, and the Unimplemented event. -/

namespace Sys2Proof.Machine

/-! ### Registers -/

/-- `R[r]` (R13, R22). -/
def State.readReg (s : State) : Reg → Byte
  | .b => s.b | .c => s.c | .d => s.d | .e => s.e | .h => s.h | .l => s.l | .a => s.a

/-- `R[r] <- v` (R13, R22). -/
def State.writeReg (s : State) (r : Reg) (v : Byte) : State :=
  match r with
  | .b => { s with b := v }
  | .c => { s with c := v }
  | .d => { s with d := v }
  | .e => { s with e := v }
  | .h => { s with h := v }
  | .l => { s with l := v }
  | .a => { s with a := v }

/-- `RP[p]`: the first register of a pair is the high byte (R23, R24). -/
def State.readPair (s : State) : Pair → Word
  | .bc => joinBytes s.b s.c
  | .de => joinBytes s.d s.e
  | .hl => joinBytes s.h s.l
  | .sp => s.sp

/-- `RP[p] <- v`, both halves in one step (R23, R24). -/
def State.writePair (s : State) (p : Pair) (v : Word) : State :=
  match p with
  | .bc => { s with b := hiByte v, c := loByte v }
  | .de => { s with d := hiByte v, e := loByte v }
  | .hl => { s with h := hiByte v, l := loByte v }
  | .sp => { s with sp := v }

/-- `H : L`, the address the operand M names (R22). -/
def State.hl (s : State) : Word := joinBytes s.h s.l

/-! ### Memory -/

/-- `MemRead(a, 1)` (R42). -/
def State.read (s : State) (x : Word) : Byte := s.mem.read x

/-- `MemWrite(a, 1, v)` (R43). -/
def State.write (s : State) (x : Word) (v : Byte) : State := { s with mem := s.mem.write x v }

/-- `MemRead16(a)` (R46). -/
def State.read16 (s : State) (x : Word) : Word := s.mem.read16 x

/-- `MemWrite16(a, v)` (R47). -/
def State.write16 (s : State) (x v : Word) : State := { s with mem := s.mem.write16 x v }

/-- A byte put into memory from outside the machine, on no path of the spec: for `State.withFetchWord` only. -/
def State.place (s : State) (x : Word) (v : Byte) : State := { s with mem := s.mem.store x.toNat v }

/-! ### The program counter -/

/-- `pc <- PC +16 n` (R65). -/
def State.advance (s : State) (n : Word) : State := { s with pc := s.pc + n }

/-- `pc <- target` (R65). -/
def State.jump (s : State) (target : Word) : State := { s with pc := target }

/-! ### The stack -/

/-- `push16(v)` (R143): `SP <- SP -16 2`, then the low byte at `SP` and the high byte at `SP +16 1`. -/
def State.push16 (s : State) (v : Word) : State := { s.write16 (s.sp - 2) v with sp := s.sp - 2 }

/-- What `pop16()` returns (R144): the word at `SP`. -/
def State.top16 (s : State) : Word := s.read16 s.sp

/-- What `pop16()` does to the state (R144): `SP <- SP +16 2`. -/
def State.dropTop (s : State) : State := { s with sp := s.sp + 2 }

/-- Push the return address `back` and go to `target` (R137, R141). -/
def State.callTo (s : State) (target back : Word) : State := (s.push16 back).jump target

/-- `pc <- pop16()` (R139): the return from a call, and from an interrupt handler (R169). -/
def State.returnTo (s : State) : State := s.dropTop.jump s.top16

/-! ### Restart and interrupt vectors -/

/-- `zext_16(n) << 3`: "a fixed address equal to the restart index times 8" (R70, R141, R167). -/
def vectorAddr (n : BitVec 3) : Word := n.setWidth 16 <<< 3

/-- Accepting an interrupt, whatever `IE` (R167): the high byte of `PC` is pushed first, each byte after its own
decrement of `SP`. -/
def State.acceptInterrupt (s : State) (n : BitVec 3) : State :=
  let s₁ := { s with sp := s.sp - 1 }.write (s.sp - 1) (hiByte s.pc)
  let s₂ := { s₁ with sp := s₁.sp - 1 }.write (s₁.sp - 1) (loByte s.pc)
  { s₂ with pc := vectorAddr n, ie := false, halt := false }

/-- A request for a number in 0..7: nothing happens while `IE = 0` (R167, R168). -/
def State.requestInterrupt (s : State) (n : BitVec 3) : State :=
  if s.ie then s.acceptInterrupt n else s

/-- The vector number the board's line requests, `P_INT_LINES` (R166). -/
def lineVector (cfg : Config) : IntLine → BitVec 3
  | .midFrame => cfg.midFrame
  | .endFrame => cfg.endFrame

/-! ### The Unimplemented event -/

/-- `emit Unimplemented(op, PC)`, then `pc <- PC +16 1` (R165). -/
def State.unimplemented (s : State) (op : Byte) : State :=
  { s with errLog := s.errLog ++ [{ op := op, addr := s.pc }], pc := s.pc + 1 }

end Sys2Proof.Machine
end

