-- ==== Sys2Proof/Machine/Flags.lean ====
section
/-! DEFINITION. The condition-flag ALU (spec 41_arithmetic R90 to R95, R115; 42_logical), the status word
(10_state R29, R30), and their application to the accumulator. -/

namespace Sys2Proof.Machine

/-! ### Flags of a result -/

/-- `popcount(v)`: how many bits are 1 (R12). -/
def popcount (v : Byte) : Nat := (List.range 8).countP (fun k => v.getLsbD k)

/-- `parity8(v)`: true when the number of 1-bits is even (R16, R92). -/
def parity8 (v : Byte) : Bool := popcount v % 2 == 0

/-- `setZSP(res)` (R93). -/
def Flags.setZSP (f : Flags) (res : Byte) : Flags :=
  { f with z := res == 0, s := res.getLsbD 7, p := parity8 res }

/-! ### The adder and the subtracter -/

/-- The result of an 8-bit addition or subtraction with its carry and auxiliary carry. -/
structure AluResult where
  res : Byte
  cy  : Bool
  ac  : Bool
  deriving DecidableEq, Repr

/-- `add8(a, b, cin)` (R94). -/
def add8 (a b : Byte) (cin : Bool) : AluResult :=
  let sum := a.toNat + b.toNat + cin.toNat
  { res := BitVec.ofNat 8 sum
    cy  := decide (sum > 0xFF)
    ac  := decide ((a &&& 0x0F).toNat + (b &&& 0x0F).toNat + cin.toNat > 0x0F) }

/-- `sub8(a, b, bin)` (R95), under either setting of `P_AC_SUB`. -/
def sub8 (mode : AcSub) (a b : Byte) (bin : Bool) : AluResult :=
  let diff : Int := (a.toNat : Int) - (b.toNat : Int) - (bin.toNat : Int)
  { res := BitVec.ofInt 8 diff
    cy  := decide (diff < 0)
    ac  :=
      match mode with
      | .borrow => decide ((a &&& 0x0F).toNat < (b &&& 0x0F).toNat + bin.toNat)
      | .intel  => decide ((a &&& 0x0F).toNat + (~~~b &&& 0x0F).toNat + (1 - bin.toNat) > 0x0F) }

/-- The flags of an arithmetic result: all five. -/
def Flags.ofAlu (f : Flags) (r : AluResult) : Flags :=
  { f.setZSP r.res with cy := r.cy, ac := r.ac }

/-- The flags of INR and DCR: CY is not written (R108 to R111). -/
def Flags.ofStep (f : Flags) (r : AluResult) : Flags :=
  { f.setZSP r.res with ac := r.ac }

/-- The flags of a logical result: CY cleared, AC as the operation fixes it (R116, R119, R122). -/
def Flags.ofLogic (f : Flags) (res : Byte) (ac : Bool) : Flags :=
  { f.setZSP res with cy := false, ac := ac }

/-! ### Decimal adjust -/

/-- The correction of `DAA` (R115): 0x06 for the low nibble, 0x60 for the high one. -/
def daaCorrection (a : Byte) (ac cy : Bool) : Byte × Bool :=
  let lsb := (a &&& 0x0F).toNat
  let msb := (a >>> 4).toNat
  let low : Byte := if ac || decide (lsb > 9) then 0x06 else 0x00
  let fixHigh := cy || decide (msb > 9) || (decide (msb ≥ 9) && decide (lsb > 9))
  (if fixHigh then low ||| 0x60 else low, cy || fixHigh)

/-- `DAA` (R115): the corrected value, CY, and AC as the carry out of the low correction. -/
def daa8 (a : Byte) (ac cy : Bool) : AluResult :=
  let corr := (daaCorrection a ac cy).1
  { res := a + corr
    cy  := (daaCorrection a ac cy).2
    ac  := decide ((a &&& 0x0F).toNat + (corr &&& 0x0F).toNat > 0x0F) }

/-! ### The status word -/

/-- Packing (R29): S 7, Z 6, 0, AC 4, 0, P 2, 1, CY 0. -/
def Flags.pack (f : Flags) : Byte :=
  (BitVec.ofBool f.s ++ BitVec.ofBool f.z ++ 0#1 ++ BitVec.ofBool f.ac ++ 0#1 ++ BitVec.ofBool f.p ++ 1#1
    ++ BitVec.ofBool f.cy : BitVec 8)

/-- Unpacking (R30): bits 5, 3 and 1 are discarded. -/
def Flags.unpack (w : Byte) : Flags :=
  { s := w.getLsbD 7, z := w.getLsbD 6, ac := w.getLsbD 4, p := w.getLsbD 2, cy := w.getLsbD 0 }

/-! ### Applied to the accumulator -/

/-- `A <- A + v + cin` with all five flags (R96 to R101). -/
def State.accAdd (s : State) (v : Byte) (cin : Bool) : State :=
  { s with a := (add8 s.a v cin).res, flags := s.flags.ofAlu (add8 s.a v cin) }

/-- `A <- A - v - bin` with all five flags (R102 to R107). -/
def State.accSub (s : State) (v : Byte) (bin : Bool) : State :=
  { s with a := (sub8 s.cfg.acSub s.a v bin).res, flags := s.flags.ofAlu (sub8 s.cfg.acSub s.a v bin) }

/-- Compare: the flags of `A - v`, A unchanged (R125 to R127). -/
def State.accCompare (s : State) (v : Byte) : State :=
  { s with flags := s.flags.ofAlu (sub8 s.cfg.acSub s.a v false) }

/-- `A <- A & v`: CY cleared, AC set (R116 to R118). -/
def State.accAnd (s : State) (v : Byte) : State :=
  { s with a := s.a &&& v, flags := s.flags.ofLogic (s.a &&& v) true }

/-- `A <- A ^ v`: CY and AC cleared (R119 to R121). -/
def State.accXor (s : State) (v : Byte) : State :=
  { s with a := s.a ^^^ v, flags := s.flags.ofLogic (s.a ^^^ v) false }

/-- `A <- A | v`: CY and AC cleared (R122 to R124). -/
def State.accOr (s : State) (v : Byte) : State :=
  { s with a := s.a ||| v, flags := s.flags.ofLogic (s.a ||| v) false }

/-- Write only CY. -/
def State.setCarry (s : State) (cy : Bool) : State := { s with flags := { s.flags with cy := cy } }

end Sys2Proof.Machine
end

