-- ==== Sys2Proof/Machine/Operands.lean ====
section
/-! DEFINITION. The operand forms: the memory operand M, the operand word after the opcode, the conditions, and the
I/O ports. -/

namespace Sys2Proof.Machine

/-- Reading register code 6: the byte at HL (R22). -/
def State.readM (s : State) : Byte := s.read s.hl

/-- Writing register code 6: an ordinary write at HL (R22). -/
def State.writeM (s : State) (v : Byte) : State := s.write s.hl v

/-- `imm16`, the word at `PC +16 1` (R15, R70), for an undocumented code that reads its own trailing bytes. -/
def State.imm16 (s : State) : Word := s.read16 (s.pc + 1)

/-- The eight tests of four flags (R71). -/
def Flags.holds (f : Flags) : Cond → Bool
  | .nz => !f.z
  | .z  => f.z
  | .nc => !f.cy
  | .c  => f.cy
  | .po => !f.p
  | .pe => f.p
  | .p  => !f.s
  | .m  => f.s

/-- The shift-result port: `(SHIFT >> (8 - SHAMT)) & 0xFF` (R154). -/
def State.shiftResult (s : State) : Byte := (s.shift >>> (8 - s.shamt.toNat)).setWidth 8

/-- `IN p` (R151, R152): the latches at 1 and 2 (R153), the shift result at 3 (R154), and at every other port a
draw, a free value (R155). -/
def State.portIn (s : State) (port : Byte) : State :=
  match port with
  | 1#8 => { s with a := s.in1 }
  | 2#8 => { s with a := s.in2 }
  | 3#8 => { s with a := s.shiftResult }
  | _   => { s with a := Config.portDraw s.draws, draws := s.draws + 1 }

/-- `OUT p` (R151, R156): the shift amount at 2 (R157), the shift data at 4 (R158), and at every other port no
change (R159). -/
def State.portOut (s : State) (port : Byte) : State :=
  match port with
  | 2#8 => { s with shamt := s.a.setWidth 3 }
  | 4#8 => { s with shift := (s.shift >>> 8) ||| (s.a.setWidth 16 <<< 8) }
  | _   => s

end Sys2Proof.Machine
end

