-- ==== Sys2Proof/Machine/Arithmetic.lean ====
section
/-! DEFINITION. The arithmetic instructions (spec 41_arithmetic). -/

namespace Sys2Proof.Machine

/-- `ADD r` (R96). -/
def execAddR (src : Reg) (s : State) : Host.Outcome State Fault Refusal :=
  .next ((s.accAdd (s.readReg src) false).advance 1)

/-- `ADD M` (R97). -/
def execAddM (s : State) : Host.Outcome State Fault Refusal :=
  .next ((s.accAdd s.readM false).advance 1)

/-- `ADI d8` (R98). -/
def execAdi (v : Byte) (s : State) : Host.Outcome State Fault Refusal :=
  .next ((s.accAdd v false).advance 2)

/-- `ADC r` (R99). -/
def execAdcR (src : Reg) (s : State) : Host.Outcome State Fault Refusal :=
  .next ((s.accAdd (s.readReg src) s.flags.cy).advance 1)

/-- `ADC M` (R100). -/
def execAdcM (s : State) : Host.Outcome State Fault Refusal :=
  .next ((s.accAdd s.readM s.flags.cy).advance 1)

/-- `ACI d8` (R101). -/
def execAci (v : Byte) (s : State) : Host.Outcome State Fault Refusal :=
  .next ((s.accAdd v s.flags.cy).advance 2)

/-- `SUB r` (R102). -/
def execSubR (src : Reg) (s : State) : Host.Outcome State Fault Refusal :=
  .next ((s.accSub (s.readReg src) false).advance 1)

/-- `SUB M` (R103). -/
def execSubM (s : State) : Host.Outcome State Fault Refusal :=
  .next ((s.accSub s.readM false).advance 1)

/-- `SUI d8` (R104). -/
def execSui (v : Byte) (s : State) : Host.Outcome State Fault Refusal :=
  .next ((s.accSub v false).advance 2)

/-- `SBB r` (R105). -/
def execSbbR (src : Reg) (s : State) : Host.Outcome State Fault Refusal :=
  .next ((s.accSub (s.readReg src) s.flags.cy).advance 1)

/-- `SBB M` (R106). -/
def execSbbM (s : State) : Host.Outcome State Fault Refusal :=
  .next ((s.accSub s.readM s.flags.cy).advance 1)

/-- `SBI d8` (R107). -/
def execSbi (v : Byte) (s : State) : Host.Outcome State Fault Refusal :=
  .next ((s.accSub v s.flags.cy).advance 2)

/-- `INR r` (R108): CY is not written. -/
def execInrR (dst : Reg) (s : State) : Host.Outcome State Fault Refusal :=
  let r := add8 (s.readReg dst) 1 false
  .next (State.advance { s.writeReg dst r.res with flags := s.flags.ofStep r } 1)

/-- `INR M` (R109): the flags are those of the result even where the write is dropped. -/
def execInrM (s : State) : Host.Outcome State Fault Refusal :=
  let r := add8 s.readM 1 false
  .next (State.advance { s.writeM r.res with flags := s.flags.ofStep r } 1)

/-- `DCR r` (R110): CY is not written. -/
def execDcrR (dst : Reg) (s : State) : Host.Outcome State Fault Refusal :=
  let r := sub8 s.cfg.acSub (s.readReg dst) 1 false
  .next (State.advance { s.writeReg dst r.res with flags := s.flags.ofStep r } 1)

/-- `DCR M` (R111): the flags are those of the result even where the write is dropped. -/
def execDcrM (s : State) : Host.Outcome State Fault Refusal :=
  let r := sub8 s.cfg.acSub s.readM 1 false
  .next (State.advance { s.writeM r.res with flags := s.flags.ofStep r } 1)

/-- `INX rp` (R112): no flag. -/
def execInx (p : Pair) (s : State) : Host.Outcome State Fault Refusal :=
  .next ((s.writePair p (s.readPair p + 1)).advance 1)

/-- `DCX rp` (R113): no flag. -/
def execDcx (p : Pair) (s : State) : Host.Outcome State Fault Refusal :=
  .next ((s.writePair p (s.readPair p - 1)).advance 1)

/-- `DAD rp` (R114): CY is the carry out of the exact sum; no other flag. -/
def execDad (p : Pair) (s : State) : Host.Outcome State Fault Refusal :=
  let sum := s.hl.toNat + (s.readPair p).toNat
  .next (((s.writePair .hl (BitVec.ofNat 16 sum)).setCarry (decide (sum > 0xFFFF))).advance 1)

/-- `DAA` (R115). -/
def execDaa (s : State) : Host.Outcome State Fault Refusal :=
  let r := daa8 s.a s.flags.ac s.flags.cy
  .next (State.advance { s with a := r.res, flags := s.flags.ofAlu r } 1)

end Sys2Proof.Machine
end

