-- ==== Sys2Proof/Machine/Branch.lean ====
section
/-! DEFINITION. The control-transfer instructions (spec 43_branch). None writes a flag. -/

namespace Sys2Proof.Machine

/-- `Jcc` (R136): the target, or the next instruction after three bytes. -/
def State.jumpIf (s : State) (cc : Cond) (addr : Word) : State :=
  if s.flags.holds cc then s.jump addr else s.advance 3

/-- `Ccc` (R138): a not-taken call makes no stack access. -/
def State.callIf (s : State) (cc : Cond) (addr : Word) : State :=
  if s.flags.holds cc then s.callTo addr (s.pc + 3) else s.advance 3

/-- `Rcc` (R140): a not-taken return makes no stack access. -/
def State.returnIf (s : State) (cc : Cond) : State :=
  if s.flags.holds cc then s.returnTo else s.advance 1

/-- `RST n` (R141): the return address is `PC +16 1`. -/
def State.restart (s : State) (n : BitVec 3) : State := s.callTo (vectorAddr n) (s.pc + 1)

/-- `JMP a16` (R135). -/
def execJmp (addr : Word) (s : State) : Host.Outcome State Fault Refusal := .next (s.jump addr)

/-- `CALL a16` (R137): the return address is the instruction after the call. -/
def execCall (addr : Word) (s : State) : Host.Outcome State Fault Refusal := .next (s.callTo addr (s.pc + 3))

/-- `RET` (R139). -/
def execRet (s : State) : Host.Outcome State Fault Refusal := .next s.returnTo

/-- `PCHL` (R142). -/
def execPchl (s : State) : Host.Outcome State Fault Refusal := .next (s.jump s.hl)

/-- `JNZ a16` (R136). -/
def execJnz (addr : Word) (s : State) : Host.Outcome State Fault Refusal := .next (s.jumpIf .nz addr)

/-- `JZ a16` (R136). -/
def execJz (addr : Word) (s : State) : Host.Outcome State Fault Refusal := .next (s.jumpIf .z addr)

/-- `JNC a16` (R136). -/
def execJnc (addr : Word) (s : State) : Host.Outcome State Fault Refusal := .next (s.jumpIf .nc addr)

/-- `JC a16` (R136). -/
def execJc (addr : Word) (s : State) : Host.Outcome State Fault Refusal := .next (s.jumpIf .c addr)

/-- `JPO a16` (R136). -/
def execJpo (addr : Word) (s : State) : Host.Outcome State Fault Refusal := .next (s.jumpIf .po addr)

/-- `JPE a16` (R136). -/
def execJpe (addr : Word) (s : State) : Host.Outcome State Fault Refusal := .next (s.jumpIf .pe addr)

/-- `JP a16` (R136). -/
def execJp (addr : Word) (s : State) : Host.Outcome State Fault Refusal := .next (s.jumpIf .p addr)

/-- `JM a16` (R136). -/
def execJm (addr : Word) (s : State) : Host.Outcome State Fault Refusal := .next (s.jumpIf .m addr)

/-- `CNZ a16` (R138). -/
def execCnz (addr : Word) (s : State) : Host.Outcome State Fault Refusal := .next (s.callIf .nz addr)

/-- `CZ a16` (R138). -/
def execCz (addr : Word) (s : State) : Host.Outcome State Fault Refusal := .next (s.callIf .z addr)

/-- `CNC a16` (R138). -/
def execCnc (addr : Word) (s : State) : Host.Outcome State Fault Refusal := .next (s.callIf .nc addr)

/-- `CC a16` (R138). -/
def execCc (addr : Word) (s : State) : Host.Outcome State Fault Refusal := .next (s.callIf .c addr)

/-- `CPO a16` (R138). -/
def execCpo (addr : Word) (s : State) : Host.Outcome State Fault Refusal := .next (s.callIf .po addr)

/-- `CPE a16` (R138). -/
def execCpe (addr : Word) (s : State) : Host.Outcome State Fault Refusal := .next (s.callIf .pe addr)

/-- `CP a16` (R138). -/
def execCp (addr : Word) (s : State) : Host.Outcome State Fault Refusal := .next (s.callIf .p addr)

/-- `CM a16` (R138). -/
def execCm (addr : Word) (s : State) : Host.Outcome State Fault Refusal := .next (s.callIf .m addr)

/-- `RNZ` (R140). -/
def execRnz (s : State) : Host.Outcome State Fault Refusal := .next (s.returnIf .nz)

/-- `RZ` (R140). -/
def execRz (s : State) : Host.Outcome State Fault Refusal := .next (s.returnIf .z)

/-- `RNC` (R140). -/
def execRnc (s : State) : Host.Outcome State Fault Refusal := .next (s.returnIf .nc)

/-- `RC` (R140). -/
def execRc (s : State) : Host.Outcome State Fault Refusal := .next (s.returnIf .c)

/-- `RPO` (R140). -/
def execRpo (s : State) : Host.Outcome State Fault Refusal := .next (s.returnIf .po)

/-- `RPE` (R140). -/
def execRpe (s : State) : Host.Outcome State Fault Refusal := .next (s.returnIf .pe)

/-- `RP` (R140). -/
def execRp (s : State) : Host.Outcome State Fault Refusal := .next (s.returnIf .p)

/-- `RM` (R140). -/
def execRm (s : State) : Host.Outcome State Fault Refusal := .next (s.returnIf .m)

/-- `RST 0` (R141). -/
def execRst0 (s : State) : Host.Outcome State Fault Refusal := .next (s.restart 0)

/-- `RST 1` (R141). -/
def execRst1 (s : State) : Host.Outcome State Fault Refusal := .next (s.restart 1)

/-- `RST 2` (R141). -/
def execRst2 (s : State) : Host.Outcome State Fault Refusal := .next (s.restart 2)

/-- `RST 3` (R141). -/
def execRst3 (s : State) : Host.Outcome State Fault Refusal := .next (s.restart 3)

/-- `RST 4` (R141). -/
def execRst4 (s : State) : Host.Outcome State Fault Refusal := .next (s.restart 4)

/-- `RST 5` (R141). -/
def execRst5 (s : State) : Host.Outcome State Fault Refusal := .next (s.restart 5)

/-- `RST 6` (R141). -/
def execRst6 (s : State) : Host.Outcome State Fault Refusal := .next (s.restart 6)

/-- `RST 7` (R141). -/
def execRst7 (s : State) : Host.Outcome State Fault Refusal := .next (s.restart 7)

end Sys2Proof.Machine
end

