-- ==== Sys2Proof/Machine/DataTransfer.lean ====
section
/-! DEFINITION. The data-transfer instructions (spec 40_data_transfer). None writes a flag. -/

namespace Sys2Proof.Machine

/-- `MOV r1,r2` (R77). -/
def execMovRR (dst src : Reg) (s : State) : Host.Outcome State Fault Refusal :=
  .next ((s.writeReg dst (s.readReg src)).advance 1)

/-- `MOV r,M`: reads through the old HL (R78). -/
def execMovRM (dst : Reg) (s : State) : Host.Outcome State Fault Refusal :=
  .next ((s.writeReg dst s.readM).advance 1)

/-- `MOV M,r` (R79). -/
def execMovMR (src : Reg) (s : State) : Host.Outcome State Fault Refusal :=
  .next ((s.writeM (s.readReg src)).advance 1)

/-- `MVI r,d8` (R80). -/
def execMviR (dst : Reg) (v : Byte) (s : State) : Host.Outcome State Fault Refusal :=
  .next ((s.writeReg dst v).advance 2)

/-- `MVI M,d8` (R81). -/
def execMviM (v : Byte) (s : State) : Host.Outcome State Fault Refusal :=
  .next ((s.writeM v).advance 2)

/-- `LXI rp,d16` (R82). -/
def execLxi (p : Pair) (v : Word) (s : State) : Host.Outcome State Fault Refusal :=
  .next ((s.writePair p v).advance 3)

/-- `LDA a16` (R83). -/
def execLda (addr : Word) (s : State) : Host.Outcome State Fault Refusal :=
  .next ((s.writeReg .a (s.read addr)).advance 3)

/-- `STA a16` (R84). -/
def execSta (addr : Word) (s : State) : Host.Outcome State Fault Refusal :=
  .next ((s.write addr s.a).advance 3)

/-- `LHLD a16`: L from `addr`, H from `addr +16 1` (R85). -/
def execLhld (addr : Word) (s : State) : Host.Outcome State Fault Refusal :=
  .next ((s.writePair .hl (s.read16 addr)).advance 3)

/-- `SHLD a16`: L at `addr`, H at `addr +16 1`, each protected separately (R86). -/
def execShld (addr : Word) (s : State) : Host.Outcome State Fault Refusal :=
  .next ((s.write16 addr s.hl).advance 3)

/-- `LDAX` and `STAX` share these two over the pair that holds the address (R87, R88). -/
def State.loadVia (s : State) (p : Pair) : State := (s.writeReg .a (s.read (s.readPair p))).advance 1

def State.storeVia (s : State) (p : Pair) : State := (s.write (s.readPair p) s.a).advance 1

/-- `LDAX B` (R87). -/
def execLdaxB (s : State) : Host.Outcome State Fault Refusal := .next (s.loadVia .bc)

/-- `LDAX D` (R87). -/
def execLdaxD (s : State) : Host.Outcome State Fault Refusal := .next (s.loadVia .de)

/-- `STAX B` (R88). -/
def execStaxB (s : State) : Host.Outcome State Fault Refusal := .next (s.storeVia .bc)

/-- `STAX D` (R88). -/
def execStaxD (s : State) : Host.Outcome State Fault Refusal := .next (s.storeVia .de)

/-- `XCHG`: DE and HL simultaneously (R89). -/
def execXchg (s : State) : Host.Outcome State Fault Refusal :=
  .next (State.advance { s with d := s.h, e := s.l, h := s.d, l := s.e } 1)

end Sys2Proof.Machine
end

