-- ==== Sys2Proof/Machine/Logical.lean ====
section
/-! DEFINITION. The logical, compare, rotate and carry instructions (spec 42_logical). -/

namespace Sys2Proof.Machine

/-- `ANA r` (R116). -/
def execAnaR (src : Reg) (s : State) : Host.Outcome State Fault Refusal :=
  .next ((s.accAnd (s.readReg src)).advance 1)

/-- `ANA M` (R117). -/
def execAnaM (s : State) : Host.Outcome State Fault Refusal :=
  .next ((s.accAnd s.readM).advance 1)

/-- `ANI d8` (R118). -/
def execAni (v : Byte) (s : State) : Host.Outcome State Fault Refusal :=
  .next ((s.accAnd v).advance 2)

/-- `XRA r` (R119). -/
def execXraR (src : Reg) (s : State) : Host.Outcome State Fault Refusal :=
  .next ((s.accXor (s.readReg src)).advance 1)

/-- `XRA M` (R120). -/
def execXraM (s : State) : Host.Outcome State Fault Refusal :=
  .next ((s.accXor s.readM).advance 1)

/-- `XRI d8` (R121). -/
def execXri (v : Byte) (s : State) : Host.Outcome State Fault Refusal :=
  .next ((s.accXor v).advance 2)

/-- `ORA r` (R122). -/
def execOraR (src : Reg) (s : State) : Host.Outcome State Fault Refusal :=
  .next ((s.accOr (s.readReg src)).advance 1)

/-- `ORA M` (R123). -/
def execOraM (s : State) : Host.Outcome State Fault Refusal :=
  .next ((s.accOr s.readM).advance 1)

/-- `ORI d8` (R124). -/
def execOri (v : Byte) (s : State) : Host.Outcome State Fault Refusal :=
  .next ((s.accOr v).advance 2)

/-- `CMP r` (R125). -/
def execCmpR (src : Reg) (s : State) : Host.Outcome State Fault Refusal :=
  .next ((s.accCompare (s.readReg src)).advance 1)

/-- `CMP M` (R126). -/
def execCmpM (s : State) : Host.Outcome State Fault Refusal :=
  .next ((s.accCompare s.readM).advance 1)

/-- `CPI d8` (R127). -/
def execCpi (v : Byte) (s : State) : Host.Outcome State Fault Refusal :=
  .next ((s.accCompare v).advance 2)

/-- What a rotate writes: A and CY only (R128 to R131). -/
def State.rotated (s : State) (a : Byte) (cy : Bool) : State :=
  (State.setCarry { s with a := a } cy).advance 1

/-- A bit as a byte, 0 or 1. -/
def bitByte (x : Bool) : Byte := (BitVec.ofBool x).setWidth 8

/-- `RLC` (R128): bit 7 goes to bit 0 and to CY. -/
def execRlc (s : State) : Host.Outcome State Fault Refusal :=
  .next (s.rotated ((s.a <<< 1) ||| bitByte (s.a.getLsbD 7)) (s.a.getLsbD 7))

/-- `RRC` (R129): bit 0 goes to bit 7 and to CY. -/
def execRrc (s : State) : Host.Outcome State Fault Refusal :=
  .next (s.rotated ((s.a >>> 1) ||| (bitByte (s.a.getLsbD 0) <<< 7)) (s.a.getLsbD 0))

/-- `RAL` (R130): through CY. -/
def execRal (s : State) : Host.Outcome State Fault Refusal :=
  .next (s.rotated ((s.a <<< 1) ||| bitByte s.flags.cy) (s.a.getLsbD 7))

/-- `RAR` (R131): through CY. -/
def execRar (s : State) : Host.Outcome State Fault Refusal :=
  .next (s.rotated ((s.a >>> 1) ||| (bitByte s.flags.cy <<< 7)) (s.a.getLsbD 0))

/-- `CMA` (R132): no flag. -/
def execCma (s : State) : Host.Outcome State Fault Refusal :=
  .next (State.advance { s with a := ~~~s.a } 1)

/-- `CMC` (R133). -/
def execCmc (s : State) : Host.Outcome State Fault Refusal :=
  .next ((s.setCarry (!s.flags.cy)).advance 1)

/-- `STC` (R134). -/
def execStc (s : State) : Host.Outcome State Fault Refusal :=
  .next ((s.setCarry true).advance 1)

end Sys2Proof.Machine
end

