-- ==== Sys2Proof/Machine/StackIo.lean ====
section
/-! DEFINITION. The stack, I/O and machine-control instructions (spec 44_stack_io_control). -/

namespace Sys2Proof.Machine

/-- `PUSH rp` (R145). SP is no operand of PUSH: `.push .sp` is not well-formed. -/
def execPush (p : Pair) (s : State) : Host.Outcome State Fault Refusal :=
  match p with
  | .sp => .refused (.noSuchPair "PUSH_rp")
  | p   => .next ((s.push16 (s.readPair p)).advance 1)

/-- `PUSH PSW` (R146): A is the high byte, the status word the low byte. -/
def execPushPsw (s : State) : Host.Outcome State Fault Refusal :=
  .next ((s.push16 (joinBytes s.a s.flags.pack)).advance 1)

/-- `POP rp` (R147). SP is no operand of POP: `.pop .sp` is not well-formed. -/
def execPop (p : Pair) (s : State) : Host.Outcome State Fault Refusal :=
  match p with
  | .sp => .refused (.noSuchPair "POP_rp")
  | p   => .next ((s.dropTop.writePair p s.top16).advance 1)

/-- `POP PSW` (R148). -/
def execPopPsw (s : State) : Host.Outcome State Fault Refusal :=
  .next (State.advance { s.dropTop with a := hiByte s.top16, flags := Flags.unpack (loByte s.top16) } 1)

/-- `XTHL` (R149): HL receives the old stack bytes even where the writes are dropped. -/
def execXthl (s : State) : Host.Outcome State Fault Refusal :=
  .next (((s.write16 s.sp s.hl).writePair .hl s.top16).advance 1)

/-- `SPHL` (R150). -/
def execSphl (s : State) : Host.Outcome State Fault Refusal := .next ((s.writePair .sp s.hl).advance 1)

/-- `IN d8` (R152). -/
def execInp (port : Byte) (s : State) : Host.Outcome State Fault Refusal := .next ((s.portIn port).advance 2)

/-- `OUT d8` (R156). -/
def execOutp (port : Byte) (s : State) : Host.Outcome State Fault Refusal := .next ((s.portOut port).advance 2)

/-- `EI` (R160): takes effect at once. -/
def execEi (s : State) : Host.Outcome State Fault Refusal := .next (State.advance { s with ie := true } 1)

/-- `DI` (R161). -/
def execDi (s : State) : Host.Outcome State Fault Refusal := .next (State.advance { s with ie := false } 1)

/-- `HLT` (R162): the halt latch is set and PC advanced. -/
def execHlt (s : State) : Host.Outcome State Fault Refusal := .next (State.advance { s with halt := true } 1)

/-- `NOP` (R163). -/
def execNop (s : State) : Host.Outcome State Fault Refusal := .next (s.advance 1)

end Sys2Proof.Machine
end

