-- ==== Sys2Proof/Machine/Undoc.lean ====
section
/-! DEFINITION. The 12 undocumented codes under either setting of `P_UNDOC` (spec 30_encoding R73, 60_exceptions
R165). -/

namespace Sys2Proof.Machine

/-- `undocumented(op)` (R73): under the default the Unimplemented event, else what the Intel part does. -/
def State.undocumented (s : State) (op : Byte) (intel : State) : State :=
  match s.cfg.undoc with
  | .unimplemented => s.unimplemented op
  | .aliased       => intel

/-- Code 0x08; the Intel part runs it as NOP. -/
def execUndoc08 (s : State) : Host.Outcome State Fault Refusal := .next (s.undocumented 0x08 (s.advance 1))

/-- Code 0x10; the Intel part runs it as NOP. -/
def execUndoc10 (s : State) : Host.Outcome State Fault Refusal := .next (s.undocumented 0x10 (s.advance 1))

/-- Code 0x18; the Intel part runs it as NOP. -/
def execUndoc18 (s : State) : Host.Outcome State Fault Refusal := .next (s.undocumented 0x18 (s.advance 1))

/-- Code 0x20; the Intel part runs it as NOP. -/
def execUndoc20 (s : State) : Host.Outcome State Fault Refusal := .next (s.undocumented 0x20 (s.advance 1))

/-- Code 0x28; the Intel part runs it as NOP. -/
def execUndoc28 (s : State) : Host.Outcome State Fault Refusal := .next (s.undocumented 0x28 (s.advance 1))

/-- Code 0x30; the Intel part runs it as NOP. -/
def execUndoc30 (s : State) : Host.Outcome State Fault Refusal := .next (s.undocumented 0x30 (s.advance 1))

/-- Code 0x38; the Intel part runs it as NOP. -/
def execUndoc38 (s : State) : Host.Outcome State Fault Refusal := .next (s.undocumented 0x38 (s.advance 1))

/-- Code 0xCB; the Intel part runs it as `JMP a16`. -/
def execUndocCB (s : State) : Host.Outcome State Fault Refusal := .next (s.undocumented 0xCB (s.jump s.imm16))

/-- Code 0xD9; the Intel part runs it as RET. -/
def execUndocD9 (s : State) : Host.Outcome State Fault Refusal := .next (s.undocumented 0xD9 s.returnTo)

/-- Code 0xDD; the Intel part runs it as `CALL a16`. -/
def execUndocDD (s : State) : Host.Outcome State Fault Refusal := .next (s.undocumented 0xDD (s.callTo s.imm16 (s.pc + 3)))

/-- Code 0xED; the Intel part runs it as `CALL a16`. -/
def execUndocED (s : State) : Host.Outcome State Fault Refusal := .next (s.undocumented 0xED (s.callTo s.imm16 (s.pc + 3)))

/-- Code 0xFD; the Intel part runs it as `CALL a16`. -/
def execUndocFD (s : State) : Host.Outcome State Fault Refusal := .next (s.undocumented 0xFD (s.callTo s.imm16 (s.pc + 3)))

end Sys2Proof.Machine
end

