-- ==== Sys2Proof/WellFormed.lean ====
section
/-! DEFINITION. Which terms of `Instr` are instructions of the hardware. The types rule out every other ill-formed
operand (a register field cannot name M); the one check left is the pair of PUSH and POP. -/

namespace Sys2Proof

/-- PUSH and POP take BC, DE or HL: "there is no `PUSH SP`" (R145), "there is no `POP SP`" (R147, R24). -/
def Instr.wellFormed : Instr → Bool
  | .push p => p != .sp
  | .pop p => p != .sp
  | .movRR _ _ | .movRM _ | .movMR _ | .hlt | .mviR _ _ | .mviM _ | .lxi _ _ | .staxB
  | .staxD | .ldaxB | .ldaxD | .shld _ | .lhld _ | .sta _ | .lda _ | .xchg
  | .addR _ | .addM | .adi _ | .adcR _ | .adcM | .aci _ | .subR _ | .subM
  | .sui _ | .sbbR _ | .sbbM | .sbi _ | .anaR _ | .anaM | .ani _ | .xraR _
  | .xraM | .xri _ | .oraR _ | .oraM | .ori _ | .cmpR _ | .cmpM | .cpi _
  | .inrR _ | .inrM | .dcrR _ | .dcrM | .inx _ | .dcx _ | .dad _ | .daa
  | .rlc | .rrc | .ral | .rar | .cma | .stc | .cmc | .jmp _
  | .jnz _ | .jz _ | .jnc _ | .jc _ | .jpo _ | .jpe _ | .jp _ | .jm _
  | .call _ | .cnz _ | .cz _ | .cnc _ | .cc _ | .cpo _ | .cpe _ | .cp _
  | .cm _ | .ret | .rnz | .rz | .rnc | .rc | .rpo | .rpe
  | .rp | .rm | .rst0 | .rst1 | .rst2 | .rst3 | .rst4 | .rst5
  | .rst6 | .rst7 | .pchl | .pushPsw | .popPsw | .xthl | .sphl | .outp _
  | .inp _ | .di | .ei | .nop | .undoc08 | .undoc10 | .undoc18 | .undoc20
  | .undoc28 | .undoc30 | .undoc38 | .undocCB | .undocD9 | .undocDD | .undocED | .undocFD => true

end Sys2Proof
end

