-- ==== Sys2Proof/Decode.lean ====
section
/-! DEFINITION. The encoding (spec 30_encoding): decoding a list of bytes, total and rejecting by name, and the
encoder written from the same tables. -/

namespace Sys2Proof

open Machine (joinBytes hiByte loByte)

/-! ### Field codes -/

/-- The 3-bit register code (R22). -/
def Reg.code : Reg → BitVec 3
  | .b => 0 | .c => 1 | .d => 2 | .e => 3 | .h => 4 | .l => 5 | .a => 7

/-- The register a 3-bit code names; `none` for code 6, the memory operand M (R22). -/
def regOfCode (k : BitVec 3) : Option Reg :=
  match k with
  | 0#3 => some .b
  | 1#3 => some .c
  | 2#3 => some .d
  | 3#3 => some .e
  | 4#3 => some .h
  | 5#3 => some .l
  | 6#3 => none
  | _   => some .a

/-- The 2-bit pair code (R24, first table). -/
def Pair.code : Pair → BitVec 2
  | .bc => 0 | .de => 1 | .hl => 2 | .sp => 3

/-- The pair a 2-bit code selects (R24, first table). -/
def pairOfCode (k : BitVec 2) : Pair :=
  match k with
  | 0#2 => .bc
  | 1#2 => .de
  | 2#2 => .hl
  | _   => .sp

/-! ### Decoding -/

/-- The MOV block `01 ddd sss` (R63): the place of "MOV M,M" is the halt code. -/
def decodeMov (ddd sss : BitVec 3) : Instr :=
  match regOfCode ddd, regOfCode sss with
  | some dst, some src => .movRR dst src
  | some dst, none     => .movRM dst
  | none,     some src => .movMR src
  | none,     none     => .hlt

/-- The ALU-reg block `10 ooo sss` (R68, R69). -/
def decodeAlu (ooo sss : BitVec 3) : Instr :=
  match regOfCode sss with
  | some r =>
    match ooo with
    | 0#3 => .addR r
    | 1#3 => .adcR r
    | 2#3 => .subR r
    | 3#3 => .sbbR r
    | 4#3 => .anaR r
    | 5#3 => .xraR r
    | 6#3 => .oraR r
    | _   => .cmpR r
  | none =>
    match ooo with
    | 0#3 => .addM
    | 1#3 => .adcM
    | 2#3 => .subM
    | 3#3 => .sbbM
    | 4#3 => .anaM
    | 5#3 => .xraM
    | 6#3 => .oraM
    | _   => .cmpM

/-- The rows `0x` to `3x` of the opcode map, opcode `00 yyy zzz` (R72). -/
def decodeLow (y z : BitVec 3) (d8 : Byte) (d16 : Word) : Instr :=
  match z with
  | 0#3 =>
    match y with
    | 0#3 => .nop
    | 1#3 => .undoc08
    | 2#3 => .undoc10
    | 3#3 => .undoc18
    | 4#3 => .undoc20
    | 5#3 => .undoc28
    | 6#3 => .undoc30
    | _   => .undoc38
  | 1#3 =>
    match y.getLsbD 0 with
    | false => .lxi (pairOfCode (y.extractLsb' 1 2)) d16
    | true  => .dad (pairOfCode (y.extractLsb' 1 2))
  | 2#3 =>
    match y with
    | 0#3 => .staxB
    | 1#3 => .ldaxB
    | 2#3 => .staxD
    | 3#3 => .ldaxD
    | 4#3 => .shld d16
    | 5#3 => .lhld d16
    | 6#3 => .sta d16
    | _   => .lda d16
  | 3#3 =>
    match y.getLsbD 0 with
    | false => .inx (pairOfCode (y.extractLsb' 1 2))
    | true  => .dcx (pairOfCode (y.extractLsb' 1 2))
  | 4#3 =>
    match regOfCode y with
    | some r => .inrR r
    | none   => .inrM
  | 5#3 =>
    match regOfCode y with
    | some r => .dcrR r
    | none   => .dcrM
  | 6#3 =>
    match regOfCode y with
    | some r => .mviR r d8
    | none   => .mviM d8
  | _   =>
    match y with
    | 0#3 => .rlc
    | 1#3 => .rrc
    | 2#3 => .ral
    | 3#3 => .rar
    | 4#3 => .daa
    | 5#3 => .cma
    | 6#3 => .stc
    | _   => .cmc

/-- The rows `Cx` to `Fx` of the opcode map, opcode `11 yyy zzz` (R72). -/
def decodeHigh (y z : BitVec 3) (d8 : Byte) (a16 : Word) : Instr :=
  match z with
  | 0#3 =>
    match y with
    | 0#3 => .rnz
    | 1#3 => .rz
    | 2#3 => .rnc
    | 3#3 => .rc
    | 4#3 => .rpo
    | 5#3 => .rpe
    | 6#3 => .rp
    | _   => .rm
  | 1#3 =>
    match y with
    | 0#3 => .pop .bc
    | 1#3 => .ret
    | 2#3 => .pop .de
    | 3#3 => .undocD9
    | 4#3 => .pop .hl
    | 5#3 => .pchl
    | 6#3 => .popPsw
    | _   => .sphl
  | 2#3 =>
    match y with
    | 0#3 => .jnz a16
    | 1#3 => .jz a16
    | 2#3 => .jnc a16
    | 3#3 => .jc a16
    | 4#3 => .jpo a16
    | 5#3 => .jpe a16
    | 6#3 => .jp a16
    | _   => .jm a16
  | 3#3 =>
    match y with
    | 0#3 => .jmp a16
    | 1#3 => .undocCB
    | 2#3 => .outp d8
    | 3#3 => .inp d8
    | 4#3 => .xthl
    | 5#3 => .xchg
    | 6#3 => .di
    | _   => .ei
  | 4#3 =>
    match y with
    | 0#3 => .cnz a16
    | 1#3 => .cz a16
    | 2#3 => .cnc a16
    | 3#3 => .cc a16
    | 4#3 => .cpo a16
    | 5#3 => .cpe a16
    | 6#3 => .cp a16
    | _   => .cm a16
  | 5#3 =>
    match y with
    | 0#3 => .push .bc
    | 1#3 => .call a16
    | 2#3 => .push .de
    | 3#3 => .undocDD
    | 4#3 => .push .hl
    | 5#3 => .undocED
    | 6#3 => .pushPsw
    | _   => .undocFD
  | 6#3 =>
    match y with
    | 0#3 => .adi d8
    | 1#3 => .aci d8
    | 2#3 => .sui d8
    | 3#3 => .sbi d8
    | 4#3 => .ani d8
    | 5#3 => .xri d8
    | 6#3 => .ori d8
    | _   => .cpi d8
  | _   =>
    match y with
    | 0#3 => .rst0
    | 1#3 => .rst1
    | 2#3 => .rst2
    | 3#3 => .rst3
    | 4#3 => .rst4
    | 5#3 => .rst5
    | 6#3 => .rst6
    | _   => .rst7

/-- The instruction whose opcode is `op` and whose bytes 2 and 3, where its length takes them, are `b2` and `b3`
(R64, R70, R72): `imm16` is `b3 : b2`. Total: every opcode value is in exactly one row (R75). -/
def decodeBytes (op b2 b3 : Byte) : Instr :=
  match op.extractLsb' 6 2 with
  | 0#2 => decodeLow (op.extractLsb' 3 3) (op.extractLsb' 0 3) b2 (joinBytes b3 b2)
  | 1#2 => decodeMov (op.extractLsb' 3 3) (op.extractLsb' 0 3)
  | 2#2 => decodeAlu (op.extractLsb' 3 3) (op.extractLsb' 0 3)
  | _   => decodeHigh (op.extractLsb' 3 3) (op.extractLsb' 0 3) b2 (joinBytes b3 b2)

/-- The length of an instruction in bytes (R67). -/
def Instr.length : Instr → Nat
  | .lxi _ _ | .shld _ | .lhld _ | .sta _ | .lda _ | .jmp _ | .jnz _ | .jz _
  | .jnc _ | .jc _ | .jpo _ | .jpe _ | .jp _ | .jm _ | .call _ | .cnz _
  | .cz _ | .cnc _ | .cc _ | .cpo _ | .cpe _ | .cp _ | .cm _ => 3
  | .mviR _ _ | .mviM _ | .adi _ | .aci _ | .sui _ | .sbi _ | .ani _ | .xri _
  | .ori _ | .cpi _ | .outp _ | .inp _ => 2
  | .movRR _ _ | .movRM _ | .movMR _ | .hlt | .staxB | .staxD | .ldaxB | .ldaxD
  | .xchg | .addR _ | .addM | .adcR _ | .adcM | .subR _ | .subM | .sbbR _
  | .sbbM | .anaR _ | .anaM | .xraR _ | .xraM | .oraR _ | .oraM | .cmpR _
  | .cmpM | .inrR _ | .inrM | .dcrR _ | .dcrM | .inx _ | .dcx _ | .dad _
  | .daa | .rlc | .rrc | .ral | .rar | .cma | .stc | .cmc
  | .ret | .rnz | .rz | .rnc | .rc | .rpo | .rpe | .rp
  | .rm | .rst0 | .rst1 | .rst2 | .rst3 | .rst4 | .rst5 | .rst6
  | .rst7 | .pchl | .push _ | .pushPsw | .pop _ | .popPsw | .xthl | .sphl
  | .di | .ei | .nop | .undoc08 | .undoc10 | .undoc18 | .undoc20 | .undoc28
  | .undoc30 | .undoc38 | .undocCB | .undocD9 | .undocDD | .undocED | .undocFD => 1

/-- The length the opcode byte alone fixes (R67). -/
def opcodeLength (op : Byte) : Nat := (decodeBytes op 0 0).length

/-- Why a list of bytes is no instruction. -/
inductive DecodeError where
  /-- There is no opcode byte. -/
  | noOpcode
  /-- The opcode `op` takes more operand bytes than the list holds (R67). -/
  | missingOperand (op : Byte)
  deriving DecidableEq, Repr

/-- The answer of the decoder: an instruction and the bytes after it, or a rejection by name. -/
inductive Decoded where
  | ok (i : Instr) (rest : List Byte)
  | rejected (e : DecodeError)
  deriving DecidableEq, Repr

/-- Decode the instruction at the head of a list of bytes. -/
def decode (bytes : List Byte) : Decoded :=
  match bytes with
  | [] => .rejected .noOpcode
  | op :: more =>
    match opcodeLength op, more with
    | 1, _              => .ok (decodeBytes op 0 0) more
    | 2, b2 :: rest     => .ok (decodeBytes op b2 0) rest
    | 3, b2 :: b3 :: rest => .ok (decodeBytes op b2 b3) rest
    | _, _              => .rejected (.missingOperand op)

/-- `spec/opcode_table.json`'s numbering: bits 7..0 of `w` are the first byte, bits 15..8 the second, bits 23..16
the third; bits at and above `nbits` are 0. -/
def decodeTableWord (nbits w : Nat) : Option Instr :=
  if nbits < 8 then none
  else
    let v := w % 2 ^ nbits
    match decode [BitVec.ofNat 8 v, BitVec.ofNat 8 (v / 256), BitVec.ofNat 8 (v / 65536)] with
    | .ok i _ => some i
    | .rejected _ => none

/-! ### Encoding -/

/-- The opcode byte with fields `xx yyy zzz` (R68). -/
def opcode (x : BitVec 2) (y z : BitVec 3) : Byte := x ++ y ++ z

/-- The opcode byte with fields `xx pp qzzz` (formats RP, RP-IMM and STACK of R68). -/
def pairOpcode (x : BitVec 2) (p : Pair) (low : BitVec 4) : Byte := x ++ p.code ++ low

/-- A three-byte instruction: the low byte of the operand is byte 2 (R48, R70). -/
def withWord (op : Byte) (v : Word) : List Byte := [op, loByte v, hiByte v]

/-- The bytes of an instruction, at rising addresses (R67 to R73). -/
def encode : Instr → List Byte
  | .movRR dst src => [opcode 1 dst.code src.code]
  | .movRM dst => [opcode 1 dst.code 6]
  | .movMR src => [opcode 1 6 src.code]
  | .mviR dst v => [opcode 0 dst.code 6, v]
  | .mviM v => [0x36, v]
  | .lxi p v => withWord (pairOpcode 0 p 0b0001) v
  | .staxB => [0x02]
  | .staxD => [0x12]
  | .ldaxB => [0x0A]
  | .ldaxD => [0x1A]
  | .shld addr => withWord 0x22 addr
  | .lhld addr => withWord 0x2A addr
  | .sta addr => withWord 0x32 addr
  | .lda addr => withWord 0x3A addr
  | .xchg => [0xEB]
  | .addR r => [opcode 2 0 r.code]
  | .addM => [0x86]
  | .adi v => [0xC6, v]
  | .adcR r => [opcode 2 1 r.code]
  | .adcM => [0x8E]
  | .aci v => [0xCE, v]
  | .subR r => [opcode 2 2 r.code]
  | .subM => [0x96]
  | .sui v => [0xD6, v]
  | .sbbR r => [opcode 2 3 r.code]
  | .sbbM => [0x9E]
  | .sbi v => [0xDE, v]
  | .inrR r => [opcode 0 r.code 4]
  | .inrM => [0x34]
  | .dcrR r => [opcode 0 r.code 5]
  | .dcrM => [0x35]
  | .inx p => [pairOpcode 0 p 0b0011]
  | .dcx p => [pairOpcode 0 p 0b1011]
  | .dad p => [pairOpcode 0 p 0b1001]
  | .daa => [0x27]
  | .anaR r => [opcode 2 4 r.code]
  | .anaM => [0xA6]
  | .ani v => [0xE6, v]
  | .xraR r => [opcode 2 5 r.code]
  | .xraM => [0xAE]
  | .xri v => [0xEE, v]
  | .oraR r => [opcode 2 6 r.code]
  | .oraM => [0xB6]
  | .ori v => [0xF6, v]
  | .cmpR r => [opcode 2 7 r.code]
  | .cmpM => [0xBE]
  | .cpi v => [0xFE, v]
  | .rlc => [0x07]
  | .rrc => [0x0F]
  | .ral => [0x17]
  | .rar => [0x1F]
  | .cma => [0x2F]
  | .cmc => [0x3F]
  | .stc => [0x37]
  | .jmp addr => withWord 0xC3 addr
  | .jnz addr => withWord 0xC2 addr
  | .jz addr => withWord 0xCA addr
  | .jnc addr => withWord 0xD2 addr
  | .jc addr => withWord 0xDA addr
  | .jpo addr => withWord 0xE2 addr
  | .jpe addr => withWord 0xEA addr
  | .jp addr => withWord 0xF2 addr
  | .jm addr => withWord 0xFA addr
  | .call addr => withWord 0xCD addr
  | .cnz addr => withWord 0xC4 addr
  | .cz addr => withWord 0xCC addr
  | .cnc addr => withWord 0xD4 addr
  | .cc addr => withWord 0xDC addr
  | .cpo addr => withWord 0xE4 addr
  | .cpe addr => withWord 0xEC addr
  | .cp addr => withWord 0xF4 addr
  | .cm addr => withWord 0xFC addr
  | .ret => [0xC9]
  | .rnz => [0xC0]
  | .rz => [0xC8]
  | .rnc => [0xD0]
  | .rc => [0xD8]
  | .rpo => [0xE0]
  | .rpe => [0xE8]
  | .rp => [0xF0]
  | .rm => [0xF8]
  | .rst0 => [0xC7]
  | .rst1 => [0xCF]
  | .rst2 => [0xD7]
  | .rst3 => [0xDF]
  | .rst4 => [0xE7]
  | .rst5 => [0xEF]
  | .rst6 => [0xF7]
  | .rst7 => [0xFF]
  | .pchl => [0xE9]
  | .push p => [pairOpcode 3 p 0b0101]
  | .pushPsw => [0xF5]
  | .pop p => [pairOpcode 3 p 0b0001]
  | .popPsw => [0xF1]
  | .xthl => [0xE3]
  | .sphl => [0xF9]
  | .inp port => [0xDB, port]
  | .outp port => [0xD3, port]
  | .ei => [0xFB]
  | .di => [0xF3]
  | .hlt => [0x76]
  | .nop => [0x00]
  | .undoc08 => [0x08]
  | .undoc10 => [0x10]
  | .undoc18 => [0x18]
  | .undoc20 => [0x20]
  | .undoc28 => [0x28]
  | .undoc30 => [0x30]
  | .undoc38 => [0x38]
  | .undocCB => [0xCB]
  | .undocD9 => [0xD9]
  | .undocDD => [0xDD]
  | .undocED => [0xED]
  | .undocFD => [0xFD]

end Sys2Proof
end

