-- ==== Sys2Proof/Machine/Fetch.lean ====
section
/-! DEFINITION. Fetching an instruction (spec 30_encoding R62, R70; 00_scope R15). -/

namespace Sys2Proof.Machine

/-- The instruction at `PC`: the opcode byte, and bytes 2 and 3 at `PC +16 1` and `PC +16 2`. Reads have no side
effect (R42), so it does not matter that bytes an instruction does not take are read too; all are read before
the instruction's writes (R56). -/
def State.fetch (s : State) : Instr := decodeBytes (s.read s.pc) (s.read (s.pc + 1)) (s.read (s.pc + 2))

/-- Put the three bytes of the table word `w` of `nbits` bits at `PC`, clear the halt latch, change nothing else. -/
def State.placeWord (s : State) (nbits w : Nat) : State :=
  let v := w % 2 ^ nbits
  let s₁ := s.place s.pc (BitVec.ofNat 8 v)
  let s₂ := s₁.place (s.pc + 1) (BitVec.ofNat 8 (v / 256))
  let s₃ := s₂.place (s.pc + 2) (BitVec.ofNat 8 (v / 65536))
  { s₃ with halt := false }

end Sys2Proof.Machine
end

