-- ==== Sys2Proof/Machine/Cycle.lean ====
section
/-! DEFINITION. The instruction cycle (spec 30_encoding R60, R61). -/

namespace Sys2Proof.Machine

/-- A halted core reads nothing, writes nothing and keeps `PC` (R61); otherwise the instruction at `PC` runs in
full (R60). Interrupts enter only through the host's `requestInterrupt` between steps. -/
def cycle (s : State) : Host.Outcome State Fault Refusal :=
  if s.halt then .next s else exec s.fetch s

end Sys2Proof.Machine
end

