-- ==== Sys2Proof/Machine/Step.lean ====
section
/-! DEFINITION. One step, and the placing of an instruction where it fetches. -/

namespace Sys2Proof.Machine

/-- `step()` (R60): exactly one complete instruction, or one idle step of a halted core. -/
def step (s : State) : Host.Outcome State Fault Refusal := cycle s

/-- `s` with the table word `w` stored where `step` fetches next. A halted core fetches nothing (R61), so the halt
latch is cleared. It stands for the host's installer (R177), which places a program (assumption log 4). -/
def State.withFetchWord (s : State) (nbits w : Nat) : State := s.placeWord nbits w

end Sys2Proof.Machine
end

