-- ==== Sys2Proof/Machine/HostOps.lean ====
section
/-! DEFINITION. The host's operations on the core that execute no instruction (spec 60_exceptions R174 to R178,
70_reset_and_hazards R180): their effects on the state and what they answer. -/

namespace Sys2Proof.Machine

/-- A copy of the register file: every component of R20 except `MEM` and `ERRLOG` (R178, D22). -/
structure Snapshot where
  b     : Byte
  c     : Byte
  d     : Byte
  e     : Byte
  h     : Byte
  l     : Byte
  a     : Byte
  sp    : Word
  pc    : Word
  flags : Flags
  ie    : Bool
  halt  : Bool
  in1   : Byte
  in2   : Byte
  shift : Word
  shamt : BitVec 3
  deriving DecidableEq, Repr

/-- What a host call answers. -/
inductive HostAnswer where
  | done
  | bytes (view : List Byte)
  | registers (r : Snapshot)
  | refused (why : Refusal)
  deriving DecidableEq, Repr

/-- The state after a host call, and its answer. -/
structure HostReply where
  state  : State
  answer : HostAnswer
  deriving DecidableEq, Repr

/-! ### Inputs and interrupts -/

/-- The two input latches (R33). -/
inductive InputLatch where
  | in1 | in2
  deriving DecidableEq, Repr

/-- Bit `k` of a byte set to `v`, the others kept. -/
def setBit (w : Byte) (k : Fin 8) (v : Bool) : Byte :=
  if v then w ||| (1#8 <<< k.val) else w &&& ~~~(1#8 <<< k.val)

/-- `setInput(k, b, v)` (R176). -/
def State.setInput (s : State) (latch : InputLatch) (k : Fin 8) (v : Bool) : State :=
  match latch with
  | .in1 => { s with in1 := setBit s.in1 k v }
  | .in2 => { s with in2 := setBit s.in2 k v }

/-- `requestInterrupt(n)` (R167, R168): refused for `n` outside 0..7. -/
def State.hostInterrupt (s : State) (n : Nat) : HostReply :=
  if n < 8 then ⟨s.requestInterrupt (BitVec.ofNat 3 n), .done⟩
  else ⟨s, .refused (.vectorOutOfRange n)⟩

/-- The request the board's line makes (R166). -/
def State.hostLine (s : State) (line : IntLine) : HostReply :=
  s.hostInterrupt (lineVector s.cfg line).toNat

/-! ### Firmware -/

/-- `PrivWrite(a, v)` (R44): stores in the protected region, refused elsewhere. -/
def State.privWrite (s : State) (x : Word) (v : Byte) : HostReply :=
  if isProtected x then ⟨{ s with mem := s.mem.store x.toNat v }, .done⟩
  else ⟨s, .refused (.callerError x)⟩

/-- A firmware image: its segments in order (R177). -/
abbrev FirmwareImage := List (List Byte)

/-- The offsets of the four fixed segments (R177, R182). -/
def segmentOffsets : List Nat := [0x0000, 0x0800, 0x1000, 0x1800]

/-- The writes a load attempts, in order: byte `k` of a segment at its offset plus `k`. The address is a number,
so that a segment reaching past the address space does not wrap. -/
def attemptedWrites (image : FirmwareImage) : List (Nat × Byte) :=
  (segmentOffsets.zip image).flatMap (fun x => x.2.zipIdx.map (fun y => (x.1 + y.2, y.1)))

/-- The image the load accepts: four segments of 2 KiB, "filling the entire protected region exactly" (R177;
assumption log 5). -/
def imageAccepted (image : FirmwareImage) : Bool :=
  image.length == 4 && image.all (fun seg => seg.length == 0x800)

/-- The privileged writes of a list in order; one outside the protected region changes nothing (R44). -/
def Memory.install (m : Memory) (writes : List (Nat × Byte)) : Memory :=
  writes.foldl (fun m x => if x.1 < 0x2000 then m.store x.1 x.2 else m) m

/-- `loadFirmware(image)` (R177): an accepted image is installed whole; a rejected load leaves a prefix of its
attempted writes, as many as the free value `P_FW_PARTIAL` says. -/
def State.loadFirmware (s : State) (image : FirmwareImage) : HostReply :=
  if imageAccepted image then
    ⟨{ s with mem := s.mem.install (attemptedWrites image) }, .done⟩
  else
    ⟨{ s with
        mem := s.mem.install ((attemptedWrites image).take (Config.firmwarePrefix s.draws))
        draws := s.draws + 1 },
      .refused .firmwareRejected⟩

/-- `reset()` (R180, R38): every register, flag and latch zero, memory cleared, the error log kept, then the
firmware loaded. -/
def State.hostReset (s : State) (image : FirmwareImage) : HostReply :=
  State.loadFirmware { State.reset with errLog := s.errLog, cfg := s.cfg, draws := s.draws } image

/-! ### Views -/

/-- `videoView()` (R50): the 7,168 bytes `MEM[0x2400 .. 0x3FFF]`. -/
def State.videoView (s : State) : List Byte := s.mem.view 0x2400 7168

/-- `snapshot()` (R178). -/
def State.snapshot (s : State) : Snapshot where
  b := s.b
  c := s.c
  d := s.d
  e := s.e
  h := s.h
  l := s.l
  a := s.a
  sp := s.sp
  pc := s.pc
  flags := s.flags
  ie := s.ie
  halt := s.halt
  in1 := s.in1
  in2 := s.in2
  shift := s.shift
  shamt := s.shamt

end Sys2Proof.Machine
end

