-- ==== Sys2Proof/Machine/HostCalls.lean ====
section
/-! DEFINITION. The host interface whole: every operation of spec 60_exceptions R174 as a call, and a schedule as a
list of calls (R179). -/

namespace Sys2Proof.Machine

/-- The operations the host can perform (R174). -/
inductive HostCall where
  | step
  | executeN (n : Nat)
  | requestInterrupt (n : Nat)
  | setInput (latch : InputLatch) (k : Fin 8) (v : Bool)
  | privilegedWrite (addr : Word) (v : Byte)
  | loadFirmware (image : FirmwareImage)
  | videoView
  | snapshot
  | reset (image : FirmwareImage)
  deriving DecidableEq, Repr

/-- `executeN(N)`: N steps one after another (R175), stopping at a refusal (which no step gives). -/
def executeN : Nat → State → Host.Outcome State Fault Refusal
  | 0, s => .next s
  | n + 1, s =>
    match step s with
    | .next t => executeN n t
    | .fault f => .fault f
    | .refused r => .refused r

/-- An outcome as a reply; a refused run leaves the state it was asked in. -/
def replyOf (s : State) (o : Host.Outcome State Fault Refusal) : HostReply :=
  match o with
  | .next t    => ⟨t, .done⟩
  | .fault f   => nomatch f
  | .refused r => ⟨s, .refused r⟩

/-- One host call, atomic (R54, R174). -/
def State.hostCall (s : State) (call : HostCall) : HostReply :=
  match call with
  | .step                 => replyOf s (Machine.step s)
  | .executeN n           => replyOf s (Machine.executeN n s)
  | .requestInterrupt n   => s.hostInterrupt n
  | .setInput latch k v   => ⟨s.setInput latch k v, .done⟩
  | .privilegedWrite x v  => s.privWrite x v
  | .loadFirmware image   => s.loadFirmware image
  | .videoView            => ⟨s, .bytes s.videoView⟩
  | .snapshot             => ⟨s, .registers s.snapshot⟩
  | .reset image          => s.hostReset image

/-- The state after a schedule: the calls in order, each from the state the one before left (R54, R179). -/
def State.afterCalls (s : State) (calls : List HostCall) : State :=
  calls.foldl (fun s call => (s.hostCall call).state) s

end Sys2Proof.Machine
end

