-- ==== Sys2Proof/Safety.lean ====
section
/-! DEFINITION. What claims about runs are stated in: the invariant of the state, a clean run, a stuck core. -/

namespace Sys2Proof.Machine

/-- The invariant every operation keeps: the memory is in its canonical form. Every other component's type admits
only values the spec admits. -/
abbrev State.Inv (s : State) : Prop := s.mem.wf

/-- No Unimplemented record: the premise of a claim about a program (R36, R165). -/
def State.clean (s : State) : Prop := s.errLog = []

/-- Stuck: halted with interrupts disabled, so that neither a step nor a request changes anything (R162, R187). -/
def State.stuck (s : State) : Prop := s.halt = true ∧ s.ie = false

/-- The calls by which the program runs: steps and interrupt requests. The others are the host's own changes. -/
def HostCall.ofProgram : HostCall → Bool
  | .step | .executeN _ | .requestInterrupt _ => true
  | .setInput _ _ _ | .privilegedWrite _ _ | .loadFirmware _ | .videoView | .snapshot | .reset _ => false

end Sys2Proof.Machine
end

