-- ==== Sys2Proof/Certificates/Slice0/Obligations.lean ====
section
/-! DEFINITION. The statements for the provers, from the spec's numbered rules. `Sys2Proof.Claims` holds the words they
share; a frame is written `t = { s with x := t.x, … }`: every component not named there is as it was in `s`. -/

namespace Sys2Proof.Claims

open Machine

/-! ### Words shared by the statements -/

/-- How many bits of a byte are 1 (R12), as the sum of its eight bits. -/
def bitSum (v : Byte) : Nat :=
  v.toNat % 2 + v.toNat / 2 % 2 + v.toNat / 4 % 2 + v.toNat / 8 % 2 +
    v.toNat / 16 % 2 + v.toNat / 32 % 2 + v.toNat / 64 % 2 + v.toNat / 128 % 2

/-- Z, S and P belong to the result (R90 to R93). -/
def ResultFlags (f : Flags) (res : Byte) : Prop :=
  (f.z = true ↔ res.toNat = 0) ∧ (f.s = true ↔ 128 ≤ res.toNat) ∧ (f.p = true ↔ bitSum res % 2 = 0)

/-- Only general registers and `PC` differ; `PC` is `n` further on. -/
def OnlyRegs (s t : State) (n : Word) : Prop :=
  t = { s with b := t.b, c := t.c, d := t.d, e := t.e, h := t.h, l := t.l, a := t.a, pc := s.pc + n }

/-- Only general registers, flags and `PC` differ. -/
def OnlyRegsFlags (s t : State) (n : Word) : Prop :=
  t = { s with b := t.b, c := t.c, d := t.d, e := t.e, h := t.h, l := t.l, a := t.a, flags := t.flags, pc := s.pc + n }

/-- Register `dst` holds `v`, every other general register is as it was. -/
def RegIs (s t : State) (dst : Reg) (v : Byte) : Prop :=
  t.readReg dst = v ∧ ∀ r, r ≠ dst → t.readReg r = s.readReg r

/-- One byte stored by an ordinary write at `x` (R43): what every address reads after. -/
def StoredByte (s t : State) (x : Word) (v : Byte) : Prop :=
  ∀ y, t.read y = if y = x ∧ 0x2000 ≤ x.toNat then v else s.read y

/-- Two bytes stored by ordinary writes, the low one at `x`, the high one at `x +16 1` (R47): what every address
reads after. -/
def StoredWord (s t : State) (x v : Word) : Prop :=
  ∀ y, t.read y =
    if y = x ∧ 0x2000 ≤ x.toNat then v.setWidth 8
    else if y = x + 1 ∧ 0x2000 ≤ (x + 1).toNat then (v >>> 8).setWidth 8
    else s.read y

/-- `A <- A + v + cin` and the five flags (R94). -/
def Adds (s t : State) (v : Byte) (cin : Bool) (n : Word) : Prop :=
  t = { s with a := t.a, flags := t.flags, pc := s.pc + n } ∧
  t.a.toNat = (s.a.toNat + v.toNat + cin.toNat) % 256 ∧
  ResultFlags t.flags t.a ∧
  (t.flags.cy = true ↔ 255 < s.a.toNat + v.toNat + cin.toNat) ∧
  (t.flags.ac = true ↔ 15 < s.a.toNat % 16 + v.toNat % 16 + cin.toNat)

/-- CY and AC of `a - v - bin`, AC under the setting of `P_AC_SUB` (R95). -/
def Borrows (s t : State) (a v : Byte) (bin : Bool) : Prop :=
  (t.flags.cy = true ↔ a.toNat < v.toNat + bin.toNat) ∧
  (s.cfg.acSub = .borrow → (t.flags.ac = true ↔ a.toNat % 16 < v.toNat % 16 + bin.toNat)) ∧
  (s.cfg.acSub = .intel → (t.flags.ac = true ↔ 15 < a.toNat % 16 + (15 - v.toNat % 16) + (1 - bin.toNat)))

/-- `A <- A - v - bin` and the five flags (R95). -/
def Subtracts (s t : State) (v : Byte) (bin : Bool) (n : Word) : Prop :=
  t = { s with a := t.a, flags := t.flags, pc := s.pc + n } ∧
  (t.a.toNat : Int) = ((s.a.toNat : Int) - v.toNat - bin.toNat) % 256 ∧
  ResultFlags t.flags t.a ∧ Borrows s t s.a v bin

/-- The flags of `A - v`, A as it was (R125). -/
def Compares (s t : State) (v : Byte) (n : Word) : Prop :=
  t = { s with flags := t.flags, pc := s.pc + n } ∧
  (t.flags.z = true ↔ s.a = v) ∧
  (t.flags.s = true ↔ 128 ≤ ((s.a.toNat : Int) - v.toNat) % 256) ∧
  (t.flags.p = true ↔ bitSum (s.a - v) % 2 = 0) ∧
  Borrows s t s.a v false

/-- `A <- res` with CY cleared and AC as given (R116, R119, R122). -/
def Logic (s t : State) (res : Byte) (ac : Bool) (n : Word) : Prop :=
  t = { s with a := res, flags := t.flags, pc := s.pc + n } ∧
  ResultFlags t.flags res ∧ t.flags.cy = false ∧ t.flags.ac = ac

/-- The opcode bytes of the 12 undocumented codes (R73). -/
def undocumentedOps : List Byte :=
  [0x08, 0x10, 0x18, 0x20, 0x28, 0x30, 0x38, 0xCB, 0xD9, 0xDD, 0xED, 0xFD]

/-- The terms for the 12 undocumented codes, each with its opcode byte. -/
def undocumentedInstrs : List (Instr × Byte) :=
  [(.undoc08, 0x08), (.undoc10, 0x10), (.undoc18, 0x18), (.undoc20, 0x20), (.undoc28, 0x28), (.undoc30, 0x30),
   (.undoc38, 0x38), (.undocCB, 0xCB), (.undocD9, 0xD9), (.undocDD, 0xDD), (.undocED, 0xED), (.undocFD, 0xFD)]

/-- The instructions of a conditional family with the condition each tests (R71). -/
def jumpsOn : List ((Word → Instr) × Byte × Cond) :=
  [(.jnz, 0xC2, .nz), (.jz, 0xCA, .z), (.jnc, 0xD2, .nc), (.jc, 0xDA, .c),
   (.jpo, 0xE2, .po), (.jpe, 0xEA, .pe), (.jp, 0xF2, .p), (.jm, 0xFA, .m)]

def callsOn : List ((Word → Instr) × Byte × Cond) :=
  [(.cnz, 0xC4, .nz), (.cz, 0xCC, .z), (.cnc, 0xD4, .nc), (.cc, 0xDC, .c),
   (.cpo, 0xE4, .po), (.cpe, 0xEC, .pe), (.cp, 0xF4, .p), (.cm, 0xFC, .m)]

def returnsOn : List (Instr × Byte × Cond) :=
  [(.rnz, 0xC0, .nz), (.rz, 0xC8, .z), (.rnc, 0xD0, .nc), (.rc, 0xD8, .c),
   (.rpo, 0xE0, .po), (.rpe, 0xE8, .pe), (.rp, 0xF0, .p), (.rm, 0xF8, .m)]

def restarts : List (Instr × Byte × Nat) :=
  [(.rst0, 0xC7, 0), (.rst1, 0xCF, 1), (.rst2, 0xD7, 2), (.rst3, 0xDF, 3),
   (.rst4, 0xE7, 4), (.rst5, 0xEF, 5), (.rst6, 0xF7, 6), (.rst7, 0xFF, 7)]

/-- The condition table (R71), over the flags as propositions. -/
def CondTrue (f : Flags) : Cond → Prop
  | .nz => f.z = false
  | .z  => f.z = true
  | .nc => f.cy = false
  | .c  => f.cy = true
  | .po => f.p = false
  | .pe => f.p = true
  | .p  => f.s = false
  | .m  => f.s = true

/-- Which flags an instruction may write (R27). -/
inductive FlagWrite where
  | none | carry | allButCarry | all
  deriving DecidableEq, Repr

/-- The table of R27. -/
def flagWrite : Instr → FlagWrite
  | .addR _ | .addM | .adi _ | .adcR _ | .adcM | .aci _ | .subR _ | .subM | .sui _ | .sbbR _ | .sbbM
  | .sbi _ | .anaR _ | .anaM | .ani _ | .xraR _ | .xraM | .xri _ | .oraR _ | .oraM | .ori _ | .cmpR _
  | .cmpM | .cpi _ | .daa | .popPsw => .all
  | .inrR _ | .inrM | .dcrR _ | .dcrM => .allButCarry
  | .dad _ | .rlc | .rrc | .ral | .rar | .stc | .cmc => .carry
  | .movRR _ _ | .movRM _ | .movMR _ | .hlt | .mviR _ _ | .mviM _ | .lxi _ _ | .staxB | .staxD | .ldaxB
  | .ldaxD | .shld _ | .lhld _ | .sta _ | .lda _ | .xchg | .inx _ | .dcx _ | .cma | .jmp _ | .jnz _ | .jz _
  | .jnc _ | .jc _ | .jpo _ | .jpe _ | .jp _ | .jm _ | .call _ | .cnz _ | .cz _ | .cnc _ | .cc _ | .cpo _
  | .cpe _ | .cp _ | .cm _ | .ret | .rnz | .rz | .rnc | .rc | .rpo | .rpe | .rp | .rm | .rst0 | .rst1
  | .rst2 | .rst3 | .rst4 | .rst5 | .rst6 | .rst7 | .pchl | .push _ | .pushPsw | .pop _ | .xthl | .sphl
  | .outp _ | .inp _ | .di | .ei | .nop | .undoc08 | .undoc10 | .undoc18 | .undoc20 | .undoc28 | .undoc30
  | .undoc38 | .undocCB | .undocD9 | .undocDD | .undocED | .undocFD => .none

/-- Whether an instruction is among the writers of `SP` (R25); an undocumented code is where it runs as RET or
CALL. -/
def writesSp (cfg : Config) : Instr → Bool
  | .lxi p _ | .inx p | .dcx p => p == .sp
  | .call _ | .cnz _ | .cz _ | .cnc _ | .cc _ | .cpo _ | .cpe _ | .cp _ | .cm _ | .ret | .rnz | .rz | .rnc
  | .rc | .rpo | .rpe | .rp | .rm | .rst0 | .rst1 | .rst2 | .rst3 | .rst4 | .rst5 | .rst6 | .rst7 | .push _
  | .pushPsw | .pop _ | .popPsw | .sphl => true
  | .undocD9 | .undocDD | .undocED | .undocFD => cfg.undoc == .aliased
  | .movRR _ _ | .movRM _ | .movMR _ | .hlt | .mviR _ _ | .mviM _ | .staxB | .staxD | .ldaxB | .ldaxD
  | .shld _ | .lhld _ | .sta _ | .lda _ | .xchg | .addR _ | .addM | .adi _ | .adcR _ | .adcM | .aci _
  | .subR _ | .subM | .sui _ | .sbbR _ | .sbbM | .sbi _ | .anaR _ | .anaM | .ani _ | .xraR _ | .xraM
  | .xri _ | .oraR _ | .oraM | .ori _ | .cmpR _ | .cmpM | .cpi _ | .inrR _ | .inrM | .dcrR _ | .dcrM
  | .dad _ | .daa | .rlc | .rrc | .ral | .rar | .cma | .stc | .cmc | .jmp _ | .jnz _ | .jz _ | .jnc _
  | .jc _ | .jpo _ | .jpe _ | .jp _ | .jm _ | .pchl | .xthl | .outp _ | .inp _ | .di | .ei | .nop
  | .undoc08 | .undoc10 | .undoc18 | .undoc20 | .undoc28 | .undoc30 | .undoc38 | .undocCB => false

/-- Whether an instruction is among the transferring handlers (R65); an undocumented code is where it runs as JMP,
RET or CALL. -/
def transfers (cfg : Config) : Instr → Bool
  | .jmp _ | .jnz _ | .jz _ | .jnc _ | .jc _ | .jpo _ | .jpe _ | .jp _ | .jm _ | .call _ | .cnz _ | .cz _
  | .cnc _ | .cc _ | .cpo _ | .cpe _ | .cp _ | .cm _ | .ret | .rnz | .rz | .rnc | .rc | .rpo | .rpe | .rp
  | .rm | .rst0 | .rst1 | .rst2 | .rst3 | .rst4 | .rst5 | .rst6 | .rst7 | .pchl => true
  | .undocCB | .undocD9 | .undocDD | .undocED | .undocFD => cfg.undoc == .aliased
  | .movRR _ _ | .movRM _ | .movMR _ | .hlt | .mviR _ _ | .mviM _ | .lxi _ _ | .staxB | .staxD | .ldaxB
  | .ldaxD | .shld _ | .lhld _ | .sta _ | .lda _ | .xchg | .addR _ | .addM | .adi _ | .adcR _ | .adcM
  | .aci _ | .subR _ | .subM | .sui _ | .sbbR _ | .sbbM | .sbi _ | .anaR _ | .anaM | .ani _ | .xraR _
  | .xraM | .xri _ | .oraR _ | .oraM | .ori _ | .cmpR _ | .cmpM | .cpi _ | .inrR _ | .inrM | .dcrR _
  | .dcrM | .inx _ | .dcx _ | .dad _ | .daa | .rlc | .rrc | .ral | .rar | .cma | .stc | .cmc | .push _
  | .pushPsw | .pop _ | .popPsw | .xthl | .sphl | .outp _ | .inp _ | .di | .ei | .nop | .undoc08 | .undoc10
  | .undoc18 | .undoc20 | .undoc28 | .undoc30 | .undoc38 => false

/-- The four kinds of opcode value (R75). -/
inductive OpKind where
  | mov | hlt | documented | undocumented
  deriving DecidableEq, Repr

/-- The kind of the row an instruction belongs to. -/
def opKind : Instr → OpKind
  | .movRR _ _ | .movRM _ | .movMR _ => .mov
  | .hlt => .hlt
  | .undoc08 | .undoc10 | .undoc18 | .undoc20 | .undoc28 | .undoc30 | .undoc38 | .undocCB | .undocD9
  | .undocDD | .undocED | .undocFD => .undocumented
  | .mviR _ _ | .mviM _ | .lxi _ _ | .staxB | .staxD | .ldaxB | .ldaxD | .shld _ | .lhld _ | .sta _
  | .lda _ | .xchg | .addR _ | .addM | .adi _ | .adcR _ | .adcM | .aci _ | .subR _ | .subM | .sui _
  | .sbbR _ | .sbbM | .sbi _ | .anaR _ | .anaM | .ani _ | .xraR _ | .xraM | .xri _ | .oraR _ | .oraM
  | .ori _ | .cmpR _ | .cmpM | .cpi _ | .inrR _ | .inrM | .dcrR _ | .dcrM | .inx _ | .dcx _ | .dad _ | .daa
  | .rlc | .rrc | .ral | .rar | .cma | .stc | .cmc | .jmp _ | .jnz _ | .jz _ | .jnc _ | .jc _ | .jpo _
  | .jpe _ | .jp _ | .jm _ | .call _ | .cnz _ | .cz _ | .cnc _ | .cc _ | .cpo _ | .cpe _ | .cp _ | .cm _
  | .ret | .rnz | .rz | .rnc | .rc | .rpo | .rpe | .rp | .rm | .rst0 | .rst1 | .rst2 | .rst3 | .rst4
  | .rst5 | .rst6 | .rst7 | .pchl | .push _ | .pushPsw | .pop _ | .popPsw | .xthl | .sphl | .outp _
  | .inp _ | .di | .ei | .nop => .documented

/-- How many of the 256 opcode values are of a kind. -/
def countKind (k : OpKind) : Nat :=
  (List.range 256).countP (fun n => opKind (decodeBytes (BitVec.ofNat 8 n) 0 0) == k)

/-- The instruction at `PC` of a state, as the decoder reads it from the bytes there. -/
def bytesAtPc (s : State) : List Byte := [s.read s.pc, s.read (s.pc + 1), s.read (s.pc + 2)]

end Sys2Proof.Claims

open Sys2Proof Sys2Proof.Machine Sys2Proof.Claims

/-! ### Encoding and the instruction cycle -/

/-- Decoding the encoding of a well-formed instruction gives it back, whatever bytes follow (R67, R68, R70). -/
def Obligations.DecodeOfEncode : Prop :=
  ∀ (i : Instr) (rest : List Byte), i.wellFormed = true → decode (encode i ++ rest) = .ok i rest

/-- What the decoder accepts is a well-formed instruction, and the bytes it took are that instruction's encoding (R75);
no two well-formed instructions share an encoding. -/
def Obligations.EncodeOfDecode : Prop :=
  (∀ (bytes : List Byte) (i : Instr) (rest : List Byte), decode bytes = .ok i rest →
    i.wellFormed = true ∧ bytes = encode i ++ rest) ∧
  (∀ i j : Instr, i.wellFormed = true → j.wellFormed = true → encode i = encode j → i = j)

/-- Words the spec's own examples write out (R77, R78, R80, R82, R96, R118, R135) and single opcodes of the map
(R130, R141, R146, R152, R162, R73); and the codes of the register and pair fields, number by number (R22, R24). -/
def Obligations.ExampleWordsDecode : Prop :=
  [Reg.b, .c, .d, .e, .h, .l, .a].map Reg.code = [0, 1, 2, 3, 4, 5, 7] ∧
  [Pair.bc, .de, .hl, .sp].map Pair.code = [0, 1, 2, 3] ∧
  decode [0x78] = .ok (.movRR .a .b) [] ∧
  decode [0x5E] = .ok (.movRM .e) [] ∧
  decode [0x06, 0x3C] = .ok (.mviR .b 0x3C) [] ∧
  decode [0x21, 0x00, 0x24] = .ok (.lxi .hl 0x2400) [] ∧
  decode [0x80] = .ok (.addR .b) [] ∧
  decode [0xE6, 0x0F] = .ok (.ani 0x0F) [] ∧
  decode [0x17] = .ok .ral [] ∧
  decode [0xC3, 0xD4, 0x18] = .ok (.jmp 0x18D4) [] ∧
  decode [0xEF] = .ok .rst5 [] ∧
  decode [0xF5] = .ok .pushPsw [] ∧
  decode [0xDB, 0x01] = .ok (.inp 0x01) [] ∧
  decode [0x76] = .ok .hlt [] ∧
  decode [0xCB, 0x3C, 0x00] = .ok .undocCB [0x3C, 0x00]

/-- R75: every opcode value decodes, its kind depends on the opcode byte alone, and the kinds count 63, 1, 180
and 12. -/
def Obligations.EveryOpcodeDecodes : Prop :=
  (∀ op b2 b3 : Byte, ∃ rest, decode [op, b2, b3] = .ok (decodeBytes op b2 b3) rest) ∧
  (∀ op b2 b3 : Byte, opKind (decodeBytes op b2 b3) = opKind (decodeBytes op 0 0) ∧
    (decodeBytes op b2 b3).length = opcodeLength op) ∧
  countKind .mov = 63 ∧ countKind .hlt = 1 ∧ countKind .documented = 180 ∧ countKind .undocumented = 12

/-- A step of a core that is not halted runs the instruction its bytes decode to (R60, R62); nothing is added
around `exec`. -/
def Obligations.StepRunsDecoded : Prop :=
  ∀ (s : State) (i : Instr) (rest : List Byte), s.halt = false → decode (bytesAtPc s) = .ok i rest →
    step s = exec i s

/-- R61: a halted core makes idle steps, N of them for executeN, and stays halted until a call accepts an
interrupt or resets it. -/
def Obligations.HaltedCoreIsIdle : Prop :=
  ∀ s : State, s.halt = true →
    step s = .next s ∧ (∀ n, executeN n s = .next s) ∧
    (∀ call, (∀ image, call ≠ .reset image) → (∀ n, call = .requestInterrupt n → n < 8 → s.ie = false) →
      (s.hostCall call).state.halt = true) ∧
    (∀ n, n < 8 → s.ie = true → (s.hostCall (.requestInterrupt n)).state.halt = false) ∧
    (∀ image, (s.hostCall (.reset image)).state.halt = false)

/-- Nothing in the core throws (R164): every step, and every run of steps, answers a next state. -/
def Obligations.EveryRunAnswers : Prop :=
  ∀ (s : State) (n : Nat), ∃ t, executeN n s = .next t ∧ s.hostCall (.executeN n) = ⟨t, .done⟩

/-- Every well-formed instruction runs, whatever the state; PUSH and POP of SP, which no bytes encode, stop by name
(R145 "there is no `PUSH SP`", R147). That those two terms are refused is the model's choice (assumption log 6). -/
def Obligations.WellFormedInstructionsRun : Prop :=
  (∀ (i : Instr) (s : State), i.wellFormed = true → ∃ t, exec i s = .next t) ∧
  (∀ s : State, exec (.push .sp) s = .refused (.noSuchPair "PUSH_rp") ∧
    exec (.pop .sp) s = .refused (.noSuchPair "POP_rp")) ∧
  (∀ i : Instr, i.wellFormed = false → ∀ bytes rest, decode bytes ≠ .ok i rest)

/-- R65: an instruction that does not transfer control ends at `PC +16 len`. -/
def Obligations.PcAdvancesByLength : Prop :=
  ∀ (i : Instr) (s t : State), transfers s.cfg i = false → exec i s = .next t →
    t.pc = s.pc + BitVec.ofNat 16 i.length

/-! ### Memory -/

/-- R43: an ordinary write is dropped in the protected region, and elsewhere stores exactly one byte. -/
def Obligations.OrdinaryWrite : Prop :=
  ∀ (s : State) (x : Word) (v : Byte), s.Inv →
    StoredByte s (s.write x v) x v ∧ s.write x v = { s with mem := (s.write x v).mem } ∧
    (x.toNat < 0x2000 → s.write x v = s)

/-- R44 and R45: the privileged write stores exactly below 0x2000 and is refused elsewhere, changing no state; the
four regions partition the address space and only ROM drops ordinary writes. -/
def Obligations.PrivilegedWriteAndRegions : Prop :=
  (∀ (s : State) (x : Word) (v : Byte), s.Inv →
    (x.toNat < 0x2000 →
      (s.privWrite x v).answer = .done ∧
      (s.privWrite x v).state = { s with mem := (s.privWrite x v).state.mem } ∧
      ∀ y, (s.privWrite x v).state.read y = if y = x then v else s.read y) ∧
    (0x2000 ≤ x.toNat → s.privWrite x v = ⟨s, .refused (.callerError x)⟩)) ∧
  (∀ (x : Word) (row : RegionRow), row ∈ regionTable →
    (regionOf x = row.region ↔ row.lo ≤ x.toNat ∧ x.toNat < row.hi)) ∧
  regionTable.map (fun row => row.hi - row.lo) = [8192, 1024, 7168, 49152] ∧
  regionTable.map (fun row => (row.region, row.lo)) = [(.rom, 0), (.wram, 0x2000), (.vram, 0x2400), (.ram, 0x4000)] ∧
  (∀ x : Word, isProtected x = true ↔ regionOf x = .rom)

/-- R46 and R47: 16-bit accesses are two byte accesses, the low byte at the lower address, wrapping at 0xFFFF, each
byte protected separately. -/
def Obligations.WordAccesses : Prop :=
  ∀ (s : State) (x v : Word), s.Inv →
    s.read16 x = ((s.read (x + 1)).setWidth 16 <<< 8) ||| (s.read x).setWidth 16 ∧
    StoredWord s (s.write16 x v) x v ∧ s.write16 x v = { s with mem := (s.write16 x v).mem }

/-- Memories in canonical form that read alike are the same data (the model's choice of form, assumption log 7). -/
def Obligations.CanonicalMemoriesAgree : Prop :=
  ∀ m m' : Memory, m.wf → m'.wf → (∀ x, m.read x = m'.read x) → m = m'

/-- The memory right after construction is in canonical form (the model's choice of form, assumption log 7). -/
def Obligations.ResetIsCanonical : Prop := State.reset.Inv ∧ ∀ x, State.reset.read x = 0

/-- Every step keeps the memory in canonical form (the model's choice of form, assumption log 7). -/
def Obligations.StepKeepsCanonicalMemory : Prop :=
  ∀ s t : State, s.Inv → step s = .next t → t.Inv

/-- Every schedule of host calls keeps the memory in canonical form (the model's choice of form, assumption log 7). -/
def Obligations.SchedulesKeepCanonicalMemory : Prop :=
  ∀ (s : State) (calls : List HostCall), s.Inv → (s.afterCalls calls).Inv

/-- R50: the video view is the 7,168 bytes from 0x2400 on, in address order, and changes no state. -/
def Obligations.VideoView : Prop :=
  ∀ s : State, s.hostCall .videoView = ⟨s, .bytes s.videoView⟩ ∧ s.videoView.length = 7168 ∧
    ∀ k, k < 7168 → s.videoView[k]? = some (s.read (BitVec.ofNat 16 (0x2400 + k)))

/-- A program cannot modify `[0x0000, 0x2000)` by any means (R172): no schedule of steps and interrupt requests
changes a byte there. -/
def Obligations.ProgramCannotModifyRom : Prop :=
  ∀ (s : State) (calls : List HostCall), s.Inv → calls.all HostCall.ofProgram = true →
    ∀ x : Word, x.toNat < 0x2000 → (s.afterCalls calls).read x = s.read x

/-! ### Data transfer -/

/-- R77, R78, R80: `MOV r1,r2`, `MOV r,M`, `MVI r,d8`. The first clause says which component each register is (R21). -/
def Obligations.MovesToRegister : Prop :=
  ∀ (s : State) (dst src : Reg) (v : Byte),
    [Reg.b, .c, .d, .e, .h, .l, .a].map s.readReg = [s.b, s.c, s.d, s.e, s.h, s.l, s.a] ∧
    (∃ t, exec (.movRR dst src) s = .next t ∧ OnlyRegs s t 1 ∧ RegIs s t dst (s.readReg src)) ∧
    (∃ t, exec (.movRM dst) s = .next t ∧ OnlyRegs s t 1 ∧ RegIs s t dst (s.read (joinBytes s.h s.l))) ∧
    (∃ t, exec (.mviR dst v) s = .next t ∧ OnlyRegs s t 2 ∧ RegIs s t dst v) ∧
    encode (.movRR dst src) = [0b01#2 ++ dst.code ++ src.code] ∧
    encode (.movRM dst) = [0b01#2 ++ dst.code ++ 0b110#3] ∧
    encode (.mviR dst v) = [0b00#2 ++ dst.code ++ 0b110#3, v]

/-- R79, R81, R84, R88: the one-byte stores `MOV M,r`, `MVI M,d8`, `STA a16`, `STAX B`, `STAX D`. -/
def Obligations.ByteStores : Prop :=
  ∀ (s : State) (src : Reg) (v : Byte) (addr : Word), s.Inv →
    (∃ t, exec (.movMR src) s = .next t ∧ t = { s with mem := t.mem, pc := s.pc + 1 } ∧
      StoredByte s t (joinBytes s.h s.l) (s.readReg src)) ∧
    (∃ t, exec (.mviM v) s = .next t ∧ t = { s with mem := t.mem, pc := s.pc + 2 } ∧
      StoredByte s t (joinBytes s.h s.l) v) ∧
    (∃ t, exec (.sta addr) s = .next t ∧ t = { s with mem := t.mem, pc := s.pc + 3 } ∧ StoredByte s t addr s.a) ∧
    (∃ t, exec .staxB s = .next t ∧ t = { s with mem := t.mem, pc := s.pc + 1 } ∧
      StoredByte s t (joinBytes s.b s.c) s.a) ∧
    (∃ t, exec .staxD s = .next t ∧ t = { s with mem := t.mem, pc := s.pc + 1 } ∧
      StoredByte s t (joinBytes s.d s.e) s.a) ∧
    encode (.movMR src) = [0b01110#5 ++ src.code] ∧ encode (.mviM v) = [0x36, v] ∧
    encode (.sta addr) = [0x32, addr.setWidth 8, (addr >>> 8).setWidth 8] ∧
    encode .staxB = [0x02] ∧ encode .staxD = [0x12]

/-- R83, R87: the accumulator loads `LDA a16`, `LDAX B`, `LDAX D`. -/
def Obligations.AccumulatorLoads : Prop :=
  ∀ (s : State) (addr : Word),
    exec (.lda addr) s = .next { s with a := s.read addr, pc := s.pc + 3 } ∧
    exec .ldaxB s = .next { s with a := s.read (joinBytes s.b s.c), pc := s.pc + 1 } ∧
    exec .ldaxD s = .next { s with a := s.read (joinBytes s.d s.e), pc := s.pc + 1 } ∧
    encode (.lda addr) = [0x3A, addr.setWidth 8, (addr >>> 8).setWidth 8] ∧
    encode .ldaxB = [0x0A] ∧ encode .ldaxD = [0x1A]

/-- R82, R89, R150: `LXI rp,d16` at each pair, `XCHG`, `SPHL`. -/
def Obligations.PairLoadsAndExchange : Prop :=
  ∀ (s : State) (v : Word),
    exec (.lxi .bc v) s = .next { s with b := (v >>> 8).setWidth 8, c := v.setWidth 8, pc := s.pc + 3 } ∧
    exec (.lxi .de v) s = .next { s with d := (v >>> 8).setWidth 8, e := v.setWidth 8, pc := s.pc + 3 } ∧
    exec (.lxi .hl v) s = .next { s with h := (v >>> 8).setWidth 8, l := v.setWidth 8, pc := s.pc + 3 } ∧
    exec (.lxi .sp v) s = .next { s with sp := v, pc := s.pc + 3 } ∧
    exec .xchg s = .next { s with d := s.h, e := s.l, h := s.d, l := s.e, pc := s.pc + 1 } ∧
    exec .sphl s = .next { s with sp := joinBytes s.h s.l, pc := s.pc + 1 } ∧
    (∀ p : Pair, encode (.lxi p v) = [0b00#2 ++ p.code ++ 0b0001#4, v.setWidth 8, (v >>> 8).setWidth 8]) ∧
    encode .xchg = [0xEB] ∧ encode .sphl = [0xF9]

/-- R85, R86, R149: `LHLD a16`, `SHLD a16`, `XTHL`. HL receives the old stack bytes even where XTHL's writes are
dropped. -/
def Obligations.HlMemoryTransfers : Prop :=
  ∀ (s : State) (addr : Word), s.Inv →
    exec (.lhld addr) s = .next { s with l := s.read addr, h := s.read (addr + 1), pc := s.pc + 3 } ∧
    (∃ t, exec (.shld addr) s = .next t ∧ t = { s with mem := t.mem, pc := s.pc + 3 } ∧
      StoredWord s t addr (joinBytes s.h s.l)) ∧
    (∃ t, exec .xthl s = .next t ∧
      t = { s with mem := t.mem, l := s.read s.sp, h := s.read (s.sp + 1), pc := s.pc + 1 } ∧
      StoredWord s t s.sp (joinBytes s.h s.l)) ∧
    encode (.lhld addr) = [0x2A, addr.setWidth 8, (addr >>> 8).setWidth 8] ∧
    encode (.shld addr) = [0x22, addr.setWidth 8, (addr >>> 8).setWidth 8] ∧
    encode .xthl = [0xE3]

/-! ### Arithmetic -/

/-- R94, R96 to R101: ADD and ADC on a register, on memory and on an immediate. -/
def Obligations.Additions : Prop :=
  ∀ (s : State) (src : Reg) (v : Byte),
    (∃ t, exec (.addR src) s = .next t ∧ Adds s t (s.readReg src) false 1) ∧
    (∃ t, exec .addM s = .next t ∧ Adds s t (s.read (joinBytes s.h s.l)) false 1) ∧
    (∃ t, exec (.adi v) s = .next t ∧ Adds s t v false 2) ∧
    (∃ t, exec (.adcR src) s = .next t ∧ Adds s t (s.readReg src) s.flags.cy 1) ∧
    (∃ t, exec .adcM s = .next t ∧ Adds s t (s.read (joinBytes s.h s.l)) s.flags.cy 1) ∧
    (∃ t, exec (.aci v) s = .next t ∧ Adds s t v s.flags.cy 2) ∧
    encode (.addR src) = [0b10000#5 ++ src.code] ∧ encode .addM = [0x86] ∧ encode (.adi v) = [0xC6, v] ∧
    encode (.adcR src) = [0b10001#5 ++ src.code] ∧ encode .adcM = [0x8E] ∧ encode (.aci v) = [0xCE, v]

/-- R95, R102 to R107: SUB and SBB on a register, on memory and on an immediate, under either setting of
`P_AC_SUB`. -/
def Obligations.Subtractions : Prop :=
  ∀ (s : State) (src : Reg) (v : Byte),
    (∃ t, exec (.subR src) s = .next t ∧ Subtracts s t (s.readReg src) false 1) ∧
    (∃ t, exec .subM s = .next t ∧ Subtracts s t (s.read (joinBytes s.h s.l)) false 1) ∧
    (∃ t, exec (.sui v) s = .next t ∧ Subtracts s t v false 2) ∧
    (∃ t, exec (.sbbR src) s = .next t ∧ Subtracts s t (s.readReg src) s.flags.cy 1) ∧
    (∃ t, exec .sbbM s = .next t ∧ Subtracts s t (s.read (joinBytes s.h s.l)) s.flags.cy 1) ∧
    (∃ t, exec (.sbi v) s = .next t ∧ Subtracts s t v s.flags.cy 2) ∧
    encode (.subR src) = [0b10010#5 ++ src.code] ∧ encode .subM = [0x96] ∧ encode (.sui v) = [0xD6, v] ∧
    encode (.sbbR src) = [0b10011#5 ++ src.code] ∧ encode .sbbM = [0x9E] ∧ encode (.sbi v) = [0xDE, v]

/-- R108, R110: `INR r` and `DCR r`; CY is not written. -/
def Obligations.RegisterIncrementDecrement : Prop :=
  ∀ (s : State) (dst : Reg),
    (∃ t, exec (.inrR dst) s = .next t ∧ OnlyRegsFlags s t 1 ∧ RegIs s t dst (s.readReg dst + 1) ∧
      ResultFlags t.flags (s.readReg dst + 1) ∧ t.flags.cy = s.flags.cy ∧
      (t.flags.ac = true ↔ (s.readReg dst).toNat % 16 = 15)) ∧
    (∃ t, exec (.dcrR dst) s = .next t ∧ OnlyRegsFlags s t 1 ∧ RegIs s t dst (s.readReg dst - 1) ∧
      ResultFlags t.flags (s.readReg dst - 1) ∧ t.flags.cy = s.flags.cy ∧
      (s.cfg.acSub = .borrow → (t.flags.ac = true ↔ (s.readReg dst).toNat % 16 = 0)) ∧
      (s.cfg.acSub = .intel → (t.flags.ac = true ↔ (s.readReg dst).toNat % 16 ≠ 0))) ∧
    encode (.inrR dst) = [0b00#2 ++ dst.code ++ 0b100#3] ∧ encode (.dcrR dst) = [0b00#2 ++ dst.code ++ 0b101#3]

/-- R109, R111: `INR M` and `DCR M`; a dropped write still sets the flags, CY is not written. -/
def Obligations.MemoryIncrementDecrement : Prop :=
  ∀ (s : State) (v : Byte), s.Inv → v = s.read (joinBytes s.h s.l) →
    (∃ t, exec .inrM s = .next t ∧ t = { s with mem := t.mem, flags := t.flags, pc := s.pc + 1 } ∧
      StoredByte s t (joinBytes s.h s.l) (v + 1) ∧ ResultFlags t.flags (v + 1) ∧ t.flags.cy = s.flags.cy ∧
      (t.flags.ac = true ↔ v.toNat % 16 = 15)) ∧
    (∃ t, exec .dcrM s = .next t ∧ t = { s with mem := t.mem, flags := t.flags, pc := s.pc + 1 } ∧
      StoredByte s t (joinBytes s.h s.l) (v - 1) ∧ ResultFlags t.flags (v - 1) ∧ t.flags.cy = s.flags.cy ∧
      (s.cfg.acSub = .borrow → (t.flags.ac = true ↔ v.toNat % 16 = 0)) ∧
      (s.cfg.acSub = .intel → (t.flags.ac = true ↔ v.toNat % 16 ≠ 0))) ∧
    encode .inrM = [0x34] ∧ encode .dcrM = [0x35]

/-- R112, R113: INX and DCX at each pair, modulo 65,536; no flag. The first clause says which components each pair is
(R23). -/
def Obligations.PairIncrementDecrement : Prop :=
  ∀ (s : State) (p : Pair),
    [Pair.bc, .de, .hl, .sp].map s.readPair = [joinBytes s.b s.c, joinBytes s.d s.e, joinBytes s.h s.l, s.sp] ∧
    (∃ t, exec (.inx p) s = .next t ∧ t.readPair p = s.readPair p + 1 ∧
      (∀ q, q ≠ p → t.readPair q = s.readPair q) ∧
      t = { s with b := t.b, c := t.c, d := t.d, e := t.e, h := t.h, l := t.l, sp := t.sp, pc := s.pc + 1 }) ∧
    (∃ t, exec (.dcx p) s = .next t ∧ t.readPair p = s.readPair p - 1 ∧
      (∀ q, q ≠ p → t.readPair q = s.readPair q) ∧
      t = { s with b := t.b, c := t.c, d := t.d, e := t.e, h := t.h, l := t.l, sp := t.sp, pc := s.pc + 1 }) ∧
    encode (.inx p) = [0b00#2 ++ p.code ++ 0b0011#4] ∧ encode (.dcx p) = [0b00#2 ++ p.code ++ 0b1011#4]

/-- R114: DAD at each pair; CY is the overflow of the exact sum and no other flag is written. -/
def Obligations.DoubleAdd : Prop :=
  ∀ (s : State) (p : Pair),
    (∃ t, exec (.dad p) s = .next t ∧
      t = { s with h := t.h, l := t.l, flags := { s.flags with cy := t.flags.cy }, pc := s.pc + 1 } ∧
      (joinBytes t.h t.l).toNat = ((joinBytes s.h s.l).toNat + (s.readPair p).toNat) % 65536 ∧
      (t.flags.cy = true ↔ 65535 < (joinBytes s.h s.l).toNat + (s.readPair p).toNat)) ∧
    encode (.dad p) = [0b00#2 ++ p.code ++ 0b1001#4]

/-- R115: the decimal adjust, over exact nibbles. -/
def Obligations.DecimalAdjust : Prop :=
  ∀ (s : State) (lsb msb low high : Nat),
    lsb = s.a.toNat % 16 → msb = s.a.toNat / 16 →
    low = (if s.flags.ac = true ∨ 9 < lsb then 6 else 0) →
    high = (if s.flags.cy = true ∨ 9 < msb ∨ (9 ≤ msb ∧ 9 < lsb) then 0x60 else 0) →
    (∃ t, exec .daa s = .next t ∧ t = { s with a := t.a, flags := t.flags, pc := s.pc + 1 } ∧
      t.a.toNat = (s.a.toNat + low + high) % 256 ∧ ResultFlags t.flags t.a ∧
      (t.flags.cy = true ↔ high = 0x60) ∧ (t.flags.ac = true ↔ 15 < lsb + low)) ∧
    encode .daa = [0x27]

/-! ### Logical, compare, rotate -/

/-- R116 to R118: AND clears CY and sets AC. -/
def Obligations.LogicalAnd : Prop :=
  ∀ (s : State) (src : Reg) (v : Byte),
    (∃ t, exec (.anaR src) s = .next t ∧ Logic s t (s.a &&& s.readReg src) true 1) ∧
    (∃ t, exec .anaM s = .next t ∧ Logic s t (s.a &&& s.read (joinBytes s.h s.l)) true 1) ∧
    (∃ t, exec (.ani v) s = .next t ∧ Logic s t (s.a &&& v) true 2) ∧
    encode (.anaR src) = [0b10100#5 ++ src.code] ∧ encode .anaM = [0xA6] ∧ encode (.ani v) = [0xE6, v]

/-- R119 to R124: XOR and OR clear CY and AC. -/
def Obligations.LogicalXorAndOr : Prop :=
  ∀ (s : State) (src : Reg) (v : Byte),
    (∃ t, exec (.xraR src) s = .next t ∧ Logic s t (s.a ^^^ s.readReg src) false 1) ∧
    (∃ t, exec .xraM s = .next t ∧ Logic s t (s.a ^^^ s.read (joinBytes s.h s.l)) false 1) ∧
    (∃ t, exec (.xri v) s = .next t ∧ Logic s t (s.a ^^^ v) false 2) ∧
    (∃ t, exec (.oraR src) s = .next t ∧ Logic s t (s.a ||| s.readReg src) false 1) ∧
    (∃ t, exec .oraM s = .next t ∧ Logic s t (s.a ||| s.read (joinBytes s.h s.l)) false 1) ∧
    (∃ t, exec (.ori v) s = .next t ∧ Logic s t (s.a ||| v) false 2) ∧
    encode (.xraR src) = [0b10101#5 ++ src.code] ∧ encode .xraM = [0xAE] ∧ encode (.xri v) = [0xEE, v] ∧
    encode (.oraR src) = [0b10110#5 ++ src.code] ∧ encode .oraM = [0xB6] ∧ encode (.ori v) = [0xF6, v]

/-- R125 to R127: the compares leave A unchanged; Z says equal, CY says less (unsigned). -/
def Obligations.Comparisons : Prop :=
  ∀ (s : State) (src : Reg) (v : Byte),
    (∃ t, exec (.cmpR src) s = .next t ∧ Compares s t (s.readReg src) 1) ∧
    (∃ t, exec .cmpM s = .next t ∧ Compares s t (s.read (joinBytes s.h s.l)) 1) ∧
    (∃ t, exec (.cpi v) s = .next t ∧ Compares s t v 2) ∧
    encode (.cmpR src) = [0b10111#5 ++ src.code] ∧ encode .cmpM = [0xBE] ∧ encode (.cpi v) = [0xFE, v]

/-- R128 to R131: the rotates, over exact numbers; only CY is written of the flags. -/
def Obligations.Rotates : Prop :=
  ∀ s : State,
    (∃ t, exec .rlc s = .next t ∧ t = { s with a := t.a, flags := { s.flags with cy := t.flags.cy }, pc := s.pc + 1 } ∧
      t.a.toNat = s.a.toNat * 2 % 256 + s.a.toNat / 128 ∧ (t.flags.cy = true ↔ 128 ≤ s.a.toNat)) ∧
    (∃ t, exec .rrc s = .next t ∧ t = { s with a := t.a, flags := { s.flags with cy := t.flags.cy }, pc := s.pc + 1 } ∧
      t.a.toNat = s.a.toNat / 2 + s.a.toNat % 2 * 128 ∧ (t.flags.cy = true ↔ s.a.toNat % 2 = 1)) ∧
    (∃ t, exec .ral s = .next t ∧ t = { s with a := t.a, flags := { s.flags with cy := t.flags.cy }, pc := s.pc + 1 } ∧
      t.a.toNat = s.a.toNat * 2 % 256 + s.flags.cy.toNat ∧ (t.flags.cy = true ↔ 128 ≤ s.a.toNat)) ∧
    (∃ t, exec .rar s = .next t ∧ t = { s with a := t.a, flags := { s.flags with cy := t.flags.cy }, pc := s.pc + 1 } ∧
      t.a.toNat = s.a.toNat / 2 + s.flags.cy.toNat * 128 ∧ (t.flags.cy = true ↔ s.a.toNat % 2 = 1)) ∧
    encode .rlc = [0x07] ∧ encode .rrc = [0x0F] ∧ encode .ral = [0x17] ∧ encode .rar = [0x1F]

/-- R132 to R134: CMA writes no flag, CMC and STC only CY. -/
def Obligations.ComplementAndCarry : Prop :=
  ∀ s : State,
    (∃ t, exec .cma s = .next t ∧ t = { s with a := t.a, pc := s.pc + 1 } ∧ t.a.toNat = 255 - s.a.toNat) ∧
    exec .cmc s = .next { s with flags := { s.flags with cy := !s.flags.cy }, pc := s.pc + 1 } ∧
    exec .stc s = .next { s with flags := { s.flags with cy := true }, pc := s.pc + 1 } ∧
    encode .cma = [0x2F] ∧ encode .cmc = [0x3F] ∧ encode .stc = [0x37]

/-! ### Control transfer -/

/-- R135, R136, R142: JMP, PCHL, and the eight conditional jumps, each under its condition and its negation. -/
def Obligations.Jumps : Prop :=
  ∀ (s : State) (addr : Word),
    exec (.jmp addr) s = .next { s with pc := addr } ∧
    exec .pchl s = .next { s with pc := joinBytes s.h s.l } ∧
    (∀ j ∈ jumpsOn,
      (CondTrue s.flags j.2.2 → exec (j.1 addr) s = .next { s with pc := addr }) ∧
      (¬ CondTrue s.flags j.2.2 → exec (j.1 addr) s = .next { s with pc := s.pc + 3 }) ∧
      encode (j.1 addr) = [j.2.1, addr.setWidth 8, (addr >>> 8).setWidth 8]) ∧
    encode (.jmp addr) = [0xC3, addr.setWidth 8, (addr >>> 8).setWidth 8] ∧ encode .pchl = [0xE9]

/-- R137, R141, R143: CALL and the eight restarts push the address after the instruction and go to the target;
`SP` falls by 2 and the low byte is at the new `SP`. With both stack bytes writable, RET after CALL leaves `PC` after
the call and `SP` as before. -/
def Obligations.CallsAndRestarts : Prop :=
  ∀ (s : State) (addr : Word), s.Inv →
    (∃ t, exec (.call addr) s = .next t ∧ t = { s with mem := t.mem, sp := s.sp - 2, pc := addr } ∧
      StoredWord s t (s.sp - 2) (s.pc + 3) ∧
      (0x2000 ≤ (s.sp - 2).toNat → 0x2000 ≤ (s.sp - 1).toNat →
        exec .ret t = .next { t with sp := s.sp, pc := s.pc + 3 })) ∧
    encode (.call addr) = [0xCD, addr.setWidth 8, (addr >>> 8).setWidth 8] ∧
    (∀ x ∈ restarts,
      (∃ t, exec x.1 s = .next t ∧
        t = { s with mem := t.mem, sp := s.sp - 2, pc := BitVec.ofNat 16 (8 * x.2.2) } ∧
        StoredWord s t (s.sp - 2) (s.pc + 1)) ∧
      encode x.1 = [x.2.1])

/-- R138: the eight conditional calls; a not-taken call touches neither SP nor memory. -/
def Obligations.ConditionalCalls : Prop :=
  ∀ (s : State) (addr : Word), s.Inv → ∀ c ∈ callsOn,
    (CondTrue s.flags c.2.2 → ∃ t, exec (c.1 addr) s = .next t ∧
      t = { s with mem := t.mem, sp := s.sp - 2, pc := addr } ∧ StoredWord s t (s.sp - 2) (s.pc + 3)) ∧
    (¬ CondTrue s.flags c.2.2 → exec (c.1 addr) s = .next { s with pc := s.pc + 3 }) ∧
    encode (c.1 addr) = [c.2.1, addr.setWidth 8, (addr >>> 8).setWidth 8]

/-- R139, R140, R144: RET and the eight conditional returns; a not-taken return does not touch SP. -/
def Obligations.Returns : Prop :=
  ∀ (s : State) (back : Word), back = ((s.read (s.sp + 1)).setWidth 16 <<< 8) ||| (s.read s.sp).setWidth 16 →
    exec .ret s = .next { s with sp := s.sp + 2, pc := back } ∧ encode .ret = [0xC9] ∧
    (∀ r ∈ returnsOn,
      (CondTrue s.flags r.2.2 → exec r.1 s = .next { s with sp := s.sp + 2, pc := back }) ∧
      (¬ CondTrue s.flags r.2.2 → exec r.1 s = .next { s with pc := s.pc + 1 }) ∧
      encode r.1 = [r.2.1])

/-- R169: with both stack bytes writable, RET after an accepted interrupt leaves `PC` and `SP` of the interrupted
program, with `IE` still 0. -/
def Obligations.ReturnFromInterrupt : Prop :=
  ∀ (s : State) (n : BitVec 3), s.Inv → s.ie = true → 0x2000 ≤ (s.sp - 2).toNat → 0x2000 ≤ (s.sp - 1).toNat →
    ∃ t u, s.hostCall (.requestInterrupt n.toNat) = ⟨t, .done⟩ ∧ exec .ret t = .next u ∧
      u = { s with mem := t.mem, ie := false, halt := false }

/-! ### Stack, I/O, machine control -/

/-- R143, R145, R146: PUSH at each pair and PUSH PSW, whose low byte is the status word (R29). -/
def Obligations.Pushes : Prop :=
  ∀ s : State, s.Inv →
    (∀ p : Pair, p ≠ .sp →
      (∃ t, exec (.push p) s = .next t ∧ t = { s with mem := t.mem, sp := s.sp - 2, pc := s.pc + 1 } ∧
        StoredWord s t (s.sp - 2) (s.readPair p)) ∧
      encode (.push p) = [0b11#2 ++ p.code ++ 0b0101#4]) ∧
    (∃ t, exec .pushPsw s = .next t ∧ t = { s with mem := t.mem, sp := s.sp - 2, pc := s.pc + 1 } ∧
      StoredWord s t (s.sp - 2) (joinBytes s.a s.flags.pack)) ∧
    encode .pushPsw = [0xF5]

/-- R144, R147, R148: POP at each pair and POP PSW, which writes A and all five flags. -/
def Obligations.Pops : Prop :=
  ∀ (s : State) (lo hi : Byte), lo = s.read s.sp → hi = s.read (s.sp + 1) →
    exec (.pop .bc) s = .next { s with b := hi, c := lo, sp := s.sp + 2, pc := s.pc + 1 } ∧
    exec (.pop .de) s = .next { s with d := hi, e := lo, sp := s.sp + 2, pc := s.pc + 1 } ∧
    exec (.pop .hl) s = .next { s with h := hi, l := lo, sp := s.sp + 2, pc := s.pc + 1 } ∧
    exec .popPsw s = .next
      { s with
        a := hi
        flags := { s := lo.getLsbD 7, z := lo.getLsbD 6, ac := lo.getLsbD 4, p := lo.getLsbD 2, cy := lo.getLsbD 0 }
        sp := s.sp + 2
        pc := s.pc + 1 } ∧
    (∀ p : Pair, encode (.pop p) = [0b11#2 ++ p.code ++ 0b0001#4]) ∧ encode .popPsw = [0xF1]

/-- R29 and R30: the packed image, its fixed bits, and the discarded bits of a popped byte. -/
def Obligations.StatusWord : Prop :=
  (∀ f : Flags, f.pack.toNat =
    128 * f.s.toNat + 64 * f.z.toNat + 16 * f.ac.toNat + 4 * f.p.toNat + 2 + f.cy.toNat) ∧
  (∀ w : Byte, Flags.unpack w =
    { s := w.getLsbD 7, z := w.getLsbD 6, ac := w.getLsbD 4, p := w.getLsbD 2, cy := w.getLsbD 0 }) ∧
  (∀ f : Flags, Flags.unpack f.pack = f) ∧
  (∀ w : Byte, (Flags.unpack w).pack = (w &&& 0xD5) ||| 0x02)

/-- A push followed by the pop of the same operand gives every register, flag and `SP` back when both stack bytes
are writable (R144): for the three pairs and for PSW. -/
def Obligations.PopUndoesPush : Prop :=
  ∀ s : State, s.Inv → 0x2000 ≤ (s.sp - 2).toNat → 0x2000 ≤ (s.sp - 1).toNat →
    (∀ p : Pair, p ≠ .sp → ∃ t u, exec (.push p) s = .next t ∧ exec (.pop p) t = .next u ∧
      u = { s with mem := t.mem, pc := s.pc + 2 }) ∧
    (∃ t u, exec .pushPsw s = .next t ∧ exec .popPsw t = .next u ∧ u = { s with mem := t.mem, pc := s.pc + 2 })

/-- R152 to R155: IN from the latches, from the shift result (bits `15 - SHAMT` down to `8 - SHAMT` of `SHIFT`), and
from any other port, where the byte is a draw (a free value, assumption log 2): the machine goes on and nothing but A, `PC`
and the model's own draw counter (assumption log 2), one more, changes. -/
def Obligations.PortInput : Prop :=
  ∀ (s : State) (port : Byte),
    exec (.inp 1) s = .next { s with a := s.in1, pc := s.pc + 2 } ∧
    exec (.inp 2) s = .next { s with a := s.in2, pc := s.pc + 2 } ∧
    (∃ t, exec (.inp 3) s = .next t ∧ t = { s with a := t.a, pc := s.pc + 2 } ∧
      t.a.toNat = s.shift.toNat / 2 ^ (8 - s.shamt.toNat) % 256) ∧
    (port ≠ 1 → port ≠ 2 → port ≠ 3 →
      ∃ t, exec (.inp port) s = .next t ∧ t = { s with a := t.a, draws := s.draws + 1, pc := s.pc + 2 }) ∧
    encode (.inp port) = [0xDB, port]

/-- R156 to R159: OUT to the shift-amount and shift-data ports; any other port changes no core state. -/
def Obligations.PortOutput : Prop :=
  ∀ (s : State) (port : Byte),
    (∃ t, exec (.outp 2) s = .next t ∧ t = { s with shamt := t.shamt, pc := s.pc + 2 } ∧
      t.shamt.toNat = s.a.toNat % 8) ∧
    (∃ t, exec (.outp 4) s = .next t ∧ t = { s with shift := t.shift, pc := s.pc + 2 } ∧
      t.shift.toNat = s.shift.toNat / 256 + s.a.toNat * 256) ∧
    (port ≠ 2 → port ≠ 4 → exec (.outp port) s = .next { s with pc := s.pc + 2 }) ∧
    encode (.outp port) = [0xD3, port]

/-- R160 to R163: EI, DI, HLT, NOP. -/
def Obligations.MachineControl : Prop :=
  ∀ s : State,
    exec .ei s = .next { s with ie := true, pc := s.pc + 1 } ∧
    exec .di s = .next { s with ie := false, pc := s.pc + 1 } ∧
    exec .hlt s = .next { s with halt := true, pc := s.pc + 1 } ∧
    exec .nop s = .next { s with pc := s.pc + 1 } ∧
    encode .ei = [0xFB] ∧ encode .di = [0xF3] ∧ encode .hlt = [0x76] ∧ encode .nop = [0x00]

/-! ### The undocumented codes -/

/-- R165 and the default of R73: each of the 12 codes appends its opcode and address and moves on by one byte,
changing nothing else. -/
def Obligations.UnimplementedEvent : Prop :=
  ∀ s : State, s.cfg.undoc = .unimplemented → ∀ x ∈ undocumentedInstrs,
    exec x.1 s = .next { s with errLog := s.errLog ++ [⟨x.2, s.pc⟩], pc := s.pc + 1 } ∧ encode x.1 = [x.2]

/-- R73 under `P_UNDOC = alias`: the codes run as NOP, JMP, RET and CALL, reading their own address bytes. -/
def Obligations.UndocumentedAliases : Prop :=
  ∀ (s : State) (addr : Word), s.cfg.undoc = .aliased →
    addr = ((s.read (s.pc + 2)).setWidth 16 <<< 8) ||| (s.read (s.pc + 1)).setWidth 16 →
    (∀ i ∈ [Instr.undoc08, .undoc10, .undoc18, .undoc20, .undoc28, .undoc30, .undoc38], exec i s = exec .nop s) ∧
    exec .undocCB s = exec (.jmp addr) s ∧
    exec .undocD9 s = exec .ret s ∧
    (∀ i ∈ [Instr.undocDD, .undocED, .undocFD], exec i s = exec (.call addr) s)

/-! ### Rules of the whole machine -/

/-- R27's table of writers, over every instruction: no other instruction writes a flag, the carry-only ones write
only CY, INR and DCR never write CY, AND sets AC and clears CY, XOR and OR clear both. -/
def Obligations.FlagWriters : Prop :=
  ∀ (i : Instr) (s t : State), exec i s = .next t →
    (flagWrite i = .none → t.flags = s.flags) ∧
    (flagWrite i = .carry → t.flags = { s.flags with cy := t.flags.cy }) ∧
    (flagWrite i = .allButCarry → t.flags.cy = s.flags.cy) ∧
    ((∃ r v, i ∈ [.anaR r, .anaM, .ani v]) → t.flags.cy = false ∧ t.flags.ac = true) ∧
    ((∃ r v, i ∈ [.xraR r, .xraM, .xri v, .oraR r, .oraM, .ori v]) → t.flags.cy = false ∧ t.flags.ac = false)

/-- The latches have the writers their rules name (R31 to R35): IE only EI and DI, HALT only HLT (an instruction
never clears it), the input latches none, SHIFT and SHAMT only OUT to their ports; and no instruction changes the
settings of the open parameters (R20). -/
def Obligations.LatchWriters : Prop :=
  ∀ (i : Instr) (s t : State), exec i s = .next t →
    (i ≠ .ei → i ≠ .di → t.ie = s.ie) ∧
    (i ≠ .hlt → t.halt = s.halt) ∧ (s.halt = true → t.halt = true) ∧
    t.in1 = s.in1 ∧ t.in2 = s.in2 ∧
    (i ≠ .outp 4 → t.shift = s.shift) ∧ (i ≠ .outp 2 → t.shamt = s.shamt) ∧
    t.cfg = s.cfg

/-- `SP` is written only by the instructions R25 names. -/
def Obligations.StackPointerWriters : Prop :=
  ∀ (i : Instr) (s t : State), writesSp s.cfg i = false → exec i s = .next t → t.sp = s.sp

/-- The error log grows by exactly the record of R165 when the byte at `PC` is one of the 12 codes and `P_UNDOC` is
the default, and is otherwise unchanged; no step removes an entry (R36). -/
def Obligations.ErrorLogGrowth : Prop :=
  ∀ s t : State, step s = .next t →
    t.errLog = s.errLog ++
      (if s.halt = false ∧ s.cfg.undoc = .unimplemented ∧ s.read s.pc ∈ undocumentedOps
       then [⟨s.read s.pc, s.pc⟩] else [])

/-- No instruction reads the error log (R36): a step from the same state with another log does the same to
everything else and appends the same records. -/
def Obligations.ErrorLogIsNotRead : Prop :=
  ∀ (s t : State) (log : List ErrRecord), step s = .next t →
    ∃ more, t.errLog = s.errLog ++ more ∧
      step { s with errLog := log } = .next { t with errLog := log ++ more }

/-! ### Interrupts, reset and the host's operations -/

/-- R167 and R168: an enabled request for 0..7 pushes `PC` (high byte at `SP -16 1`, low byte at `SP -16 2`), goes to
8n, clears IE and HALT; a disabled one changes nothing; one outside 0..7 is refused without change. Each of the
board's two lines (R166) requests the vector number configured for it; the open parameters have the defaults of R10,
vectors 1 and 2 among them (carried in State, assumption log 1). -/
def Obligations.InterruptDelivery : Prop :=
  (∀ s : State, s.hostLine .midFrame = s.hostCall (.requestInterrupt s.cfg.midFrame.toNat) ∧
    s.hostLine .endFrame = s.hostCall (.requestInterrupt s.cfg.endFrame.toNat)) ∧
  State.reset.cfg = { undoc := .unimplemented, acSub := .borrow, midFrame := 1, endFrame := 2 } ∧
  ∀ (s : State) (n : Nat), s.Inv →
    (n < 8 → s.ie = true → ∃ t, s.hostCall (.requestInterrupt n) = ⟨t, .done⟩ ∧
      t = { s with mem := t.mem, sp := s.sp - 2, pc := BitVec.ofNat 16 (8 * n), ie := false, halt := false } ∧
      StoredWord s t (s.sp - 2) s.pc) ∧
    (n < 8 → s.ie = false → s.hostCall (.requestInterrupt n) = ⟨s, .done⟩) ∧
    (8 ≤ n → s.hostCall (.requestInterrupt n) = ⟨s, .refused (.vectorOutOfRange n)⟩)

/-- `HLT` with `IE = 0` stops the core for good (R162, R187): a stuck core is unchanged by every schedule of steps
and interrupt requests. -/
def Obligations.StuckCoreStaysStuck : Prop :=
  ∀ (s : State) (calls : List HostCall), s.stuck → calls.all HostCall.ofProgram = true → s.afterCalls calls = s

/-- R39 with the values of R38: construction leaves every register, flag and latch zero, all memory zero, an empty log; the packed
status word is 0x02. The free-value counter and the parameter settings are the model's choice (assumption logs 1
and 2) and are not stated. -/
def Obligations.ConstructionValues : Prop :=
  (∀ r, State.reset.readReg r = 0) ∧ State.reset.sp = 0 ∧ State.reset.pc = 0 ∧
  State.reset.flags = ⟨false, false, false, false, false⟩ ∧ State.reset.flags.pack = 0x02 ∧
  State.reset.ie = false ∧ State.reset.halt = false ∧
  State.reset.in1 = 0 ∧ State.reset.in2 = 0 ∧ State.reset.shift = 0 ∧ State.reset.shamt = 0 ∧
  (∀ x, State.reset.read x = 0) ∧ State.reset.errLog = []

/-- R177: an accepted image is in memory at its offsets and nothing else changes; a rejected one leaves the bytes of
some prefix of its attempted writes, changes no address from 0x2000 on, and reports failure. Which images a load
accepts, and in which order it attempts its writes, are the model's reading (assumption log 5); the counter of free
values, which a rejected load advances by 1, is the model's own (assumption log 2). -/
def Obligations.FirmwareLoad : Prop :=
  ∀ (s : State) (image : FirmwareImage), s.Inv →
    (imageAccepted image = true ↔ image.length = 4 ∧ ∀ seg ∈ image, seg.length = 0x800) ∧
    (imageAccepted image = true →
      (s.loadFirmware image).answer = .done ∧
      (s.loadFirmware image).state = { s with mem := (s.loadFirmware image).state.mem } ∧
      (∀ x : Word, x.toNat < 0x2000 →
        some ((s.loadFirmware image).state.read x) =
          (image[x.toNat / 0x800]?).bind (fun seg => seg[x.toNat % 0x800]?)) ∧
      (∀ x : Word, 0x2000 ≤ x.toNat → (s.loadFirmware image).state.read x = s.read x)) ∧
    (imageAccepted image = false →
      (s.loadFirmware image).answer = .refused .firmwareRejected ∧
      (∃ k, (s.loadFirmware image).state =
        { s with mem := s.mem.install ((attemptedWrites image).take k), draws := s.draws + 1 }) ∧
      (∀ x : Word, 0x2000 ≤ x.toNat → (s.loadFirmware image).state.read x = s.read x))

/-- R180: `reset()` gives every register, flag and latch zero and keeps the error log; memory is then the image below
0x2000 where it is accepted (a prefix of its attempted writes where it is not), and zero elsewhere. Which images are
accepted, and the order of the writes, are the model's reading (assumption log 5). That the settings of the open
parameters stay, and that reset answers what its firmware load answers (R180 gives it no answer), are the model's choice
(assumption log 8; the settings also log 1). -/
def Obligations.HostReset : Prop :=
  ∀ (s : State) (image : FirmwareImage),
    (s.hostReset image).state.snapshot =
      { b := 0, c := 0, d := 0, e := 0, h := 0, l := 0, a := 0, sp := 0, pc := 0,
        flags := { s := false, z := false, ac := false, p := false, cy := false }, ie := false, halt := false,
        in1 := 0, in2 := 0, shift := 0, shamt := 0 } ∧
    (s.hostReset image).state.errLog = s.errLog ∧ (s.hostReset image).state.cfg = s.cfg ∧
    (∀ x : Word, 0x2000 ≤ x.toNat → (s.hostReset image).state.read x = 0) ∧
    (imageAccepted image = true → (s.hostReset image).answer = .done ∧ ∀ x : Word, x.toNat < 0x2000 →
      some ((s.hostReset image).state.read x) = (image[x.toNat / 0x800]?).bind (fun seg => seg[x.toNat % 0x800]?)) ∧
    (imageAccepted image = false → (s.hostReset image).answer = .refused .firmwareRejected ∧
      ∃ k, (s.hostReset image).state.mem = Memory.install [] ((attemptedWrites image).take k))

/-- R176: the input setter writes one bit of one latch and nothing else; R178: the snapshot changes no state. -/
def Obligations.InputSetterAndSnapshot : Prop :=
  ∀ (s : State) (k : Fin 8) (v : Bool),
    (∃ w, s.hostCall (.setInput .in1 k v) = ⟨{ s with in1 := w }, .done⟩ ∧
      ∀ j, j < 8 → w.getLsbD j = if j = k.val then v else s.in1.getLsbD j) ∧
    (∃ w, s.hostCall (.setInput .in2 k v) = ⟨{ s with in2 := w }, .done⟩ ∧
      ∀ j, j < 8 → w.getLsbD j = if j = k.val then v else s.in2.getLsbD j) ∧
    s.hostCall .snapshot = ⟨s, .registers
      { b := s.b, c := s.c, d := s.d, e := s.e, h := s.h, l := s.l, a := s.a, sp := s.sp, pc := s.pc,
        flags := s.flags, ie := s.ie, halt := s.halt, in1 := s.in1, in2 := s.in2, shift := s.shift,
        shamt := s.shamt }⟩
end

