-- ==== Sys2Proof/Laws/Arms.lean ====
section
/-! SUPPORT. What `exec` and `Instr.length` answer for each constructor, so that a proof over the instructions
rewrites one arm instead of unfolding the whole match. -/

namespace Sys2Proof.Machine

/-! ### The meaning each instruction calls -/

theorem exec_movRR (dst : Reg) (r : Reg) (s : State) : exec (.movRR dst r) s = execMovRR dst r s := rfl
theorem exec_movRM (dst : Reg) (s : State) : exec (.movRM dst) s = execMovRM dst s := rfl
theorem exec_movMR (r : Reg) (s : State) : exec (.movMR r) s = execMovMR r s := rfl
theorem exec_hlt (s : State) : exec .hlt s = execHlt s := rfl
theorem exec_mviR (dst : Reg) (v : Byte) (s : State) : exec (.mviR dst v) s = execMviR dst v s := rfl
theorem exec_mviM (v : Byte) (s : State) : exec (.mviM v) s = execMviM v s := rfl
theorem exec_lxi (p : Pair) (v : Word) (s : State) : exec (.lxi p v) s = execLxi p v s := rfl
theorem exec_staxB (s : State) : exec .staxB s = execStaxB s := rfl
theorem exec_staxD (s : State) : exec .staxD s = execStaxD s := rfl
theorem exec_ldaxB (s : State) : exec .ldaxB s = execLdaxB s := rfl
theorem exec_ldaxD (s : State) : exec .ldaxD s = execLdaxD s := rfl
theorem exec_shld (addr : Word) (s : State) : exec (.shld addr) s = execShld addr s := rfl
theorem exec_lhld (addr : Word) (s : State) : exec (.lhld addr) s = execLhld addr s := rfl
theorem exec_sta (addr : Word) (s : State) : exec (.sta addr) s = execSta addr s := rfl
theorem exec_lda (addr : Word) (s : State) : exec (.lda addr) s = execLda addr s := rfl
theorem exec_xchg (s : State) : exec .xchg s = execXchg s := rfl
theorem exec_addR (r : Reg) (s : State) : exec (.addR r) s = execAddR r s := rfl
theorem exec_addM (s : State) : exec .addM s = execAddM s := rfl
theorem exec_adi (v : Byte) (s : State) : exec (.adi v) s = execAdi v s := rfl
theorem exec_adcR (r : Reg) (s : State) : exec (.adcR r) s = execAdcR r s := rfl
theorem exec_adcM (s : State) : exec .adcM s = execAdcM s := rfl
theorem exec_aci (v : Byte) (s : State) : exec (.aci v) s = execAci v s := rfl
theorem exec_subR (r : Reg) (s : State) : exec (.subR r) s = execSubR r s := rfl
theorem exec_subM (s : State) : exec .subM s = execSubM s := rfl
theorem exec_sui (v : Byte) (s : State) : exec (.sui v) s = execSui v s := rfl
theorem exec_sbbR (r : Reg) (s : State) : exec (.sbbR r) s = execSbbR r s := rfl
theorem exec_sbbM (s : State) : exec .sbbM s = execSbbM s := rfl
theorem exec_sbi (v : Byte) (s : State) : exec (.sbi v) s = execSbi v s := rfl
theorem exec_anaR (r : Reg) (s : State) : exec (.anaR r) s = execAnaR r s := rfl
theorem exec_anaM (s : State) : exec .anaM s = execAnaM s := rfl
theorem exec_ani (v : Byte) (s : State) : exec (.ani v) s = execAni v s := rfl
theorem exec_xraR (r : Reg) (s : State) : exec (.xraR r) s = execXraR r s := rfl
theorem exec_xraM (s : State) : exec .xraM s = execXraM s := rfl
theorem exec_xri (v : Byte) (s : State) : exec (.xri v) s = execXri v s := rfl
theorem exec_oraR (r : Reg) (s : State) : exec (.oraR r) s = execOraR r s := rfl
theorem exec_oraM (s : State) : exec .oraM s = execOraM s := rfl
theorem exec_ori (v : Byte) (s : State) : exec (.ori v) s = execOri v s := rfl
theorem exec_cmpR (r : Reg) (s : State) : exec (.cmpR r) s = execCmpR r s := rfl
theorem exec_cmpM (s : State) : exec .cmpM s = execCmpM s := rfl
theorem exec_cpi (v : Byte) (s : State) : exec (.cpi v) s = execCpi v s := rfl
theorem exec_inrR (r : Reg) (s : State) : exec (.inrR r) s = execInrR r s := rfl
theorem exec_inrM (s : State) : exec .inrM s = execInrM s := rfl
theorem exec_dcrR (r : Reg) (s : State) : exec (.dcrR r) s = execDcrR r s := rfl
theorem exec_dcrM (s : State) : exec .dcrM s = execDcrM s := rfl
theorem exec_inx (p : Pair) (s : State) : exec (.inx p) s = execInx p s := rfl
theorem exec_dcx (p : Pair) (s : State) : exec (.dcx p) s = execDcx p s := rfl
theorem exec_dad (p : Pair) (s : State) : exec (.dad p) s = execDad p s := rfl
theorem exec_daa (s : State) : exec .daa s = execDaa s := rfl
theorem exec_rlc (s : State) : exec .rlc s = execRlc s := rfl
theorem exec_rrc (s : State) : exec .rrc s = execRrc s := rfl
theorem exec_ral (s : State) : exec .ral s = execRal s := rfl
theorem exec_rar (s : State) : exec .rar s = execRar s := rfl
theorem exec_cma (s : State) : exec .cma s = execCma s := rfl
theorem exec_stc (s : State) : exec .stc s = execStc s := rfl
theorem exec_cmc (s : State) : exec .cmc s = execCmc s := rfl
theorem exec_jmp (addr : Word) (s : State) : exec (.jmp addr) s = execJmp addr s := rfl
theorem exec_jnz (addr : Word) (s : State) : exec (.jnz addr) s = execJnz addr s := rfl
theorem exec_jz (addr : Word) (s : State) : exec (.jz addr) s = execJz addr s := rfl
theorem exec_jnc (addr : Word) (s : State) : exec (.jnc addr) s = execJnc addr s := rfl
theorem exec_jc (addr : Word) (s : State) : exec (.jc addr) s = execJc addr s := rfl
theorem exec_jpo (addr : Word) (s : State) : exec (.jpo addr) s = execJpo addr s := rfl
theorem exec_jpe (addr : Word) (s : State) : exec (.jpe addr) s = execJpe addr s := rfl
theorem exec_jp (addr : Word) (s : State) : exec (.jp addr) s = execJp addr s := rfl
theorem exec_jm (addr : Word) (s : State) : exec (.jm addr) s = execJm addr s := rfl
theorem exec_call (addr : Word) (s : State) : exec (.call addr) s = execCall addr s := rfl
theorem exec_cnz (addr : Word) (s : State) : exec (.cnz addr) s = execCnz addr s := rfl
theorem exec_cz (addr : Word) (s : State) : exec (.cz addr) s = execCz addr s := rfl
theorem exec_cnc (addr : Word) (s : State) : exec (.cnc addr) s = execCnc addr s := rfl
theorem exec_cc (addr : Word) (s : State) : exec (.cc addr) s = execCc addr s := rfl
theorem exec_cpo (addr : Word) (s : State) : exec (.cpo addr) s = execCpo addr s := rfl
theorem exec_cpe (addr : Word) (s : State) : exec (.cpe addr) s = execCpe addr s := rfl
theorem exec_cp (addr : Word) (s : State) : exec (.cp addr) s = execCp addr s := rfl
theorem exec_cm (addr : Word) (s : State) : exec (.cm addr) s = execCm addr s := rfl
theorem exec_ret (s : State) : exec .ret s = execRet s := rfl
theorem exec_rnz (s : State) : exec .rnz s = execRnz s := rfl
theorem exec_rz (s : State) : exec .rz s = execRz s := rfl
theorem exec_rnc (s : State) : exec .rnc s = execRnc s := rfl
theorem exec_rc (s : State) : exec .rc s = execRc s := rfl
theorem exec_rpo (s : State) : exec .rpo s = execRpo s := rfl
theorem exec_rpe (s : State) : exec .rpe s = execRpe s := rfl
theorem exec_rp (s : State) : exec .rp s = execRp s := rfl
theorem exec_rm (s : State) : exec .rm s = execRm s := rfl
theorem exec_rst0 (s : State) : exec .rst0 s = execRst0 s := rfl
theorem exec_rst1 (s : State) : exec .rst1 s = execRst1 s := rfl
theorem exec_rst2 (s : State) : exec .rst2 s = execRst2 s := rfl
theorem exec_rst3 (s : State) : exec .rst3 s = execRst3 s := rfl
theorem exec_rst4 (s : State) : exec .rst4 s = execRst4 s := rfl
theorem exec_rst5 (s : State) : exec .rst5 s = execRst5 s := rfl
theorem exec_rst6 (s : State) : exec .rst6 s = execRst6 s := rfl
theorem exec_rst7 (s : State) : exec .rst7 s = execRst7 s := rfl
theorem exec_pchl (s : State) : exec .pchl s = execPchl s := rfl
theorem exec_push (p : Pair) (s : State) : exec (.push p) s = execPush p s := rfl
theorem exec_pushPsw (s : State) : exec .pushPsw s = execPushPsw s := rfl
theorem exec_pop (p : Pair) (s : State) : exec (.pop p) s = execPop p s := rfl
theorem exec_popPsw (s : State) : exec .popPsw s = execPopPsw s := rfl
theorem exec_xthl (s : State) : exec .xthl s = execXthl s := rfl
theorem exec_sphl (s : State) : exec .sphl s = execSphl s := rfl
theorem exec_outp (port : Byte) (s : State) : exec (.outp port) s = execOutp port s := rfl
theorem exec_inp (port : Byte) (s : State) : exec (.inp port) s = execInp port s := rfl
theorem exec_di (s : State) : exec .di s = execDi s := rfl
theorem exec_ei (s : State) : exec .ei s = execEi s := rfl
theorem exec_nop (s : State) : exec .nop s = execNop s := rfl
theorem exec_undoc08 (s : State) : exec .undoc08 s = execUndoc08 s := rfl
theorem exec_undoc10 (s : State) : exec .undoc10 s = execUndoc10 s := rfl
theorem exec_undoc18 (s : State) : exec .undoc18 s = execUndoc18 s := rfl
theorem exec_undoc20 (s : State) : exec .undoc20 s = execUndoc20 s := rfl
theorem exec_undoc28 (s : State) : exec .undoc28 s = execUndoc28 s := rfl
theorem exec_undoc30 (s : State) : exec .undoc30 s = execUndoc30 s := rfl
theorem exec_undoc38 (s : State) : exec .undoc38 s = execUndoc38 s := rfl
theorem exec_undocCB (s : State) : exec .undocCB s = execUndocCB s := rfl
theorem exec_undocD9 (s : State) : exec .undocD9 s = execUndocD9 s := rfl
theorem exec_undocDD (s : State) : exec .undocDD s = execUndocDD s := rfl
theorem exec_undocED (s : State) : exec .undocED s = execUndocED s := rfl
theorem exec_undocFD (s : State) : exec .undocFD s = execUndocFD s := rfl

/-! ### The length of each instruction (R67) -/

theorem length_movRR (dst : Reg) (r : Reg) : Instr.length (.movRR dst r) = 1 := rfl
theorem length_movRM (dst : Reg) : Instr.length (.movRM dst) = 1 := rfl
theorem length_movMR (r : Reg) : Instr.length (.movMR r) = 1 := rfl
theorem length_hlt : Instr.length .hlt = 1 := rfl
theorem length_mviR (dst : Reg) (v : Byte) : Instr.length (.mviR dst v) = 2 := rfl
theorem length_mviM (v : Byte) : Instr.length (.mviM v) = 2 := rfl
theorem length_lxi (p : Pair) (v : Word) : Instr.length (.lxi p v) = 3 := rfl
theorem length_staxB : Instr.length .staxB = 1 := rfl
theorem length_staxD : Instr.length .staxD = 1 := rfl
theorem length_ldaxB : Instr.length .ldaxB = 1 := rfl
theorem length_ldaxD : Instr.length .ldaxD = 1 := rfl
theorem length_shld (addr : Word) : Instr.length (.shld addr) = 3 := rfl
theorem length_lhld (addr : Word) : Instr.length (.lhld addr) = 3 := rfl
theorem length_sta (addr : Word) : Instr.length (.sta addr) = 3 := rfl
theorem length_lda (addr : Word) : Instr.length (.lda addr) = 3 := rfl
theorem length_xchg : Instr.length .xchg = 1 := rfl
theorem length_addR (r : Reg) : Instr.length (.addR r) = 1 := rfl
theorem length_addM : Instr.length .addM = 1 := rfl
theorem length_adi (v : Byte) : Instr.length (.adi v) = 2 := rfl
theorem length_adcR (r : Reg) : Instr.length (.adcR r) = 1 := rfl
theorem length_adcM : Instr.length .adcM = 1 := rfl
theorem length_aci (v : Byte) : Instr.length (.aci v) = 2 := rfl
theorem length_subR (r : Reg) : Instr.length (.subR r) = 1 := rfl
theorem length_subM : Instr.length .subM = 1 := rfl
theorem length_sui (v : Byte) : Instr.length (.sui v) = 2 := rfl
theorem length_sbbR (r : Reg) : Instr.length (.sbbR r) = 1 := rfl
theorem length_sbbM : Instr.length .sbbM = 1 := rfl
theorem length_sbi (v : Byte) : Instr.length (.sbi v) = 2 := rfl
theorem length_anaR (r : Reg) : Instr.length (.anaR r) = 1 := rfl
theorem length_anaM : Instr.length .anaM = 1 := rfl
theorem length_ani (v : Byte) : Instr.length (.ani v) = 2 := rfl
theorem length_xraR (r : Reg) : Instr.length (.xraR r) = 1 := rfl
theorem length_xraM : Instr.length .xraM = 1 := rfl
theorem length_xri (v : Byte) : Instr.length (.xri v) = 2 := rfl
theorem length_oraR (r : Reg) : Instr.length (.oraR r) = 1 := rfl
theorem length_oraM : Instr.length .oraM = 1 := rfl
theorem length_ori (v : Byte) : Instr.length (.ori v) = 2 := rfl
theorem length_cmpR (r : Reg) : Instr.length (.cmpR r) = 1 := rfl
theorem length_cmpM : Instr.length .cmpM = 1 := rfl
theorem length_cpi (v : Byte) : Instr.length (.cpi v) = 2 := rfl
theorem length_inrR (r : Reg) : Instr.length (.inrR r) = 1 := rfl
theorem length_inrM : Instr.length .inrM = 1 := rfl
theorem length_dcrR (r : Reg) : Instr.length (.dcrR r) = 1 := rfl
theorem length_dcrM : Instr.length .dcrM = 1 := rfl
theorem length_inx (p : Pair) : Instr.length (.inx p) = 1 := rfl
theorem length_dcx (p : Pair) : Instr.length (.dcx p) = 1 := rfl
theorem length_dad (p : Pair) : Instr.length (.dad p) = 1 := rfl
theorem length_daa : Instr.length .daa = 1 := rfl
theorem length_rlc : Instr.length .rlc = 1 := rfl
theorem length_rrc : Instr.length .rrc = 1 := rfl
theorem length_ral : Instr.length .ral = 1 := rfl
theorem length_rar : Instr.length .rar = 1 := rfl
theorem length_cma : Instr.length .cma = 1 := rfl
theorem length_stc : Instr.length .stc = 1 := rfl
theorem length_cmc : Instr.length .cmc = 1 := rfl
theorem length_jmp (addr : Word) : Instr.length (.jmp addr) = 3 := rfl
theorem length_jnz (addr : Word) : Instr.length (.jnz addr) = 3 := rfl
theorem length_jz (addr : Word) : Instr.length (.jz addr) = 3 := rfl
theorem length_jnc (addr : Word) : Instr.length (.jnc addr) = 3 := rfl
theorem length_jc (addr : Word) : Instr.length (.jc addr) = 3 := rfl
theorem length_jpo (addr : Word) : Instr.length (.jpo addr) = 3 := rfl
theorem length_jpe (addr : Word) : Instr.length (.jpe addr) = 3 := rfl
theorem length_jp (addr : Word) : Instr.length (.jp addr) = 3 := rfl
theorem length_jm (addr : Word) : Instr.length (.jm addr) = 3 := rfl
theorem length_call (addr : Word) : Instr.length (.call addr) = 3 := rfl
theorem length_cnz (addr : Word) : Instr.length (.cnz addr) = 3 := rfl
theorem length_cz (addr : Word) : Instr.length (.cz addr) = 3 := rfl
theorem length_cnc (addr : Word) : Instr.length (.cnc addr) = 3 := rfl
theorem length_cc (addr : Word) : Instr.length (.cc addr) = 3 := rfl
theorem length_cpo (addr : Word) : Instr.length (.cpo addr) = 3 := rfl
theorem length_cpe (addr : Word) : Instr.length (.cpe addr) = 3 := rfl
theorem length_cp (addr : Word) : Instr.length (.cp addr) = 3 := rfl
theorem length_cm (addr : Word) : Instr.length (.cm addr) = 3 := rfl
theorem length_ret : Instr.length .ret = 1 := rfl
theorem length_rnz : Instr.length .rnz = 1 := rfl
theorem length_rz : Instr.length .rz = 1 := rfl
theorem length_rnc : Instr.length .rnc = 1 := rfl
theorem length_rc : Instr.length .rc = 1 := rfl
theorem length_rpo : Instr.length .rpo = 1 := rfl
theorem length_rpe : Instr.length .rpe = 1 := rfl
theorem length_rp : Instr.length .rp = 1 := rfl
theorem length_rm : Instr.length .rm = 1 := rfl
theorem length_rst0 : Instr.length .rst0 = 1 := rfl
theorem length_rst1 : Instr.length .rst1 = 1 := rfl
theorem length_rst2 : Instr.length .rst2 = 1 := rfl
theorem length_rst3 : Instr.length .rst3 = 1 := rfl
theorem length_rst4 : Instr.length .rst4 = 1 := rfl
theorem length_rst5 : Instr.length .rst5 = 1 := rfl
theorem length_rst6 : Instr.length .rst6 = 1 := rfl
theorem length_rst7 : Instr.length .rst7 = 1 := rfl
theorem length_pchl : Instr.length .pchl = 1 := rfl
theorem length_push (p : Pair) : Instr.length (.push p) = 1 := rfl
theorem length_pushPsw : Instr.length .pushPsw = 1 := rfl
theorem length_pop (p : Pair) : Instr.length (.pop p) = 1 := rfl
theorem length_popPsw : Instr.length .popPsw = 1 := rfl
theorem length_xthl : Instr.length .xthl = 1 := rfl
theorem length_sphl : Instr.length .sphl = 1 := rfl
theorem length_outp (port : Byte) : Instr.length (.outp port) = 2 := rfl
theorem length_inp (port : Byte) : Instr.length (.inp port) = 2 := rfl
theorem length_di : Instr.length .di = 1 := rfl
theorem length_ei : Instr.length .ei = 1 := rfl
theorem length_nop : Instr.length .nop = 1 := rfl
theorem length_undoc08 : Instr.length .undoc08 = 1 := rfl
theorem length_undoc10 : Instr.length .undoc10 = 1 := rfl
theorem length_undoc18 : Instr.length .undoc18 = 1 := rfl
theorem length_undoc20 : Instr.length .undoc20 = 1 := rfl
theorem length_undoc28 : Instr.length .undoc28 = 1 := rfl
theorem length_undoc30 : Instr.length .undoc30 = 1 := rfl
theorem length_undoc38 : Instr.length .undoc38 = 1 := rfl
theorem length_undocCB : Instr.length .undocCB = 1 := rfl
theorem length_undocD9 : Instr.length .undocD9 = 1 := rfl
theorem length_undocDD : Instr.length .undocDD = 1 := rfl
theorem length_undocED : Instr.length .undocED = 1 := rfl
theorem length_undocFD : Instr.length .undocFD = 1 := rfl

end Sys2Proof.Machine
end

