-- ==== Sys2Proof/Laws/Memory.lean ====
section
/-! SUPPORT. The byte store: every operation keeps the canonical form, and what a read gives after each. -/

namespace Sys2Proof.Machine

/-! ### The canonical form, cell by cell -/

theorem Memory.wf_tail {x : Host.Cell} {m : Memory} (h : Memory.wf (x :: m)) : Memory.wf m :=
  ⟨(List.pairwise_cons.mp h.1).2, fun y hy => h.2 y (List.mem_cons_of_mem _ hy)⟩

theorem Memory.wf_head_lt {x : Host.Cell} {m : Memory} (h : Memory.wf (x :: m)) : ∀ y ∈ m, x.1 < y.1 :=
  (List.pairwise_cons.mp h.1).1

theorem Memory.wf_nil : Memory.wf [] := ⟨List.Pairwise.nil, by simp⟩

/-- An address below every listed one reads as unlisted. -/
theorem Memory.lookup_below {m : Memory} {k : Nat} (h : ∀ y ∈ m, k < y.1) :
    Memory.lookup m k = Memory.unlisted := by
  induction m with
  | nil => rfl
  | cons y m ih =>
    have hk := h y (List.mem_cons_self ..)
    have := ih fun z hz => h z (List.mem_cons_of_mem _ hz)
    simp only [Memory.lookup]
    rw [if_neg (by omega), this]

/-- Where the cells after a store come from. -/
theorem Memory.mem_store {m : Memory} {k : Nat} {v : Byte} {y : Host.Cell} (h : y ∈ m.store k v) :
    y ∈ m ∨ (y = (k, v) ∧ v ≠ Memory.unlisted) := by
  induction m with
  | nil =>
    simp only [Memory.store] at h
    split at h
    · simp at h
    · exact .inr ⟨by simpa using h, ‹_›⟩
  | cons x m ih =>
    simp only [Memory.store] at h
    split at h
    · split at h
      · exact .inl h
      · rcases List.mem_cons.mp h with rfl | h
        · exact .inr ⟨rfl, ‹_›⟩
        · exact .inl h
    · split at h
      · split at h
        · exact .inl (List.mem_cons_of_mem _ h)
        · rcases List.mem_cons.mp h with rfl | h
          · exact .inr ⟨rfl, ‹_›⟩
          · exact .inl (List.mem_cons_of_mem _ h)
      · rcases List.mem_cons.mp h with rfl | h
        · exact .inl (List.mem_cons_self ..)
        · exact (ih h).imp_left (List.mem_cons_of_mem _)

/-- A store inside the address space keeps the canonical form. -/
theorem Memory.wf_store {m : Memory} (h : m.wf) {k : Nat} (hk : k < 65536) (v : Byte) : (m.store k v).wf := by
  induction m with
  | nil =>
    simp only [Memory.store]
    split
    · exact Memory.wf_nil
    · exact ⟨by simp, by simpa using ⟨hk, ‹_›⟩⟩
  | cons x m ih =>
    have hx := Memory.wf_head_lt h
    simp only [Memory.store]
    split
    · split
      · exact h
      · refine ⟨List.pairwise_cons.mpr ⟨fun y hy => ?_, h.1⟩, fun y hy => ?_⟩
        · rcases List.mem_cons.mp hy with rfl | hy
          · assumption
          · have := hx y hy; simp only; omega
        · rcases List.mem_cons.mp hy with rfl | hy
          · exact ⟨hk, ‹_›⟩
          · exact h.2 y hy
    · split
      · split
        · exact Memory.wf_tail h
        · rename_i hkx _
          refine ⟨List.pairwise_cons.mpr ⟨fun y hy => ?_, (Memory.wf_tail h).1⟩, fun y hy => ?_⟩
          · have := hx y hy; simp only; omega
          · rcases List.mem_cons.mp hy with rfl | hy
            · exact ⟨hk, ‹_›⟩
            · exact (Memory.wf_tail h).2 y hy
      · have hm := ih (Memory.wf_tail h)
        refine ⟨List.pairwise_cons.mpr ⟨fun y hy => ?_, hm.1⟩, fun y hy => ?_⟩
        · rcases Memory.mem_store hy with hy | ⟨rfl, _⟩
          · exact hx y hy
          · simp only; omega
        · rcases List.mem_cons.mp hy with rfl | hy
          · exact h.2 _ (List.mem_cons_self ..)
          · exact hm.2 y hy

/-- What an address holds after a store. -/
theorem Memory.lookup_store {m : Memory} (h : m.wf) (k j : Nat) (v : Byte) :
    (m.store k v).lookup j = if j = k then v else m.lookup j := by
  induction m with
  | nil =>
    simp only [Memory.store]
    split <;> simp only [Memory.lookup] <;> split <;> simp_all [eq_comm]
  | cons x m ih =>
    have hx := Memory.wf_head_lt h
    have ih := ih (Memory.wf_tail h)
    simp only [Memory.store]
    by_cases hlt : k < x.1
    · rw [if_pos hlt]
      by_cases hv : v = Memory.unlisted
      · rw [if_pos hv]
        by_cases hj : j = k
        · subst hj
          rw [if_pos rfl, hv]
          exact Memory.lookup_below fun y hy => by
            rcases List.mem_cons.mp hy with rfl | hy
            · exact hlt
            · have := hx y hy; omega
        · rw [if_neg hj]
      · rw [if_neg hv]
        simp only [Memory.lookup]
        by_cases hj : j = k
        · rw [if_pos hj.symm, if_pos hj]
        · rw [if_neg (Ne.symm hj), if_neg hj]
    · rw [if_neg hlt]
      by_cases hk : k = x.1
      · rw [if_pos hk]
        by_cases hv : v = Memory.unlisted
        · rw [if_pos hv]
          by_cases hj : j = k
          · rw [if_pos hj, hv, hj, hk]
            exact Memory.lookup_below hx
          · rw [if_neg hj]
            simp only [Memory.lookup]
            rw [if_neg (by omega)]
        · rw [if_neg hv]
          simp only [Memory.lookup]
          by_cases hj : j = k
          · rw [if_pos hj.symm, if_pos hj]
          · rw [if_neg (Ne.symm hj), if_neg hj, if_neg (by omega)]
      · rw [if_neg hk]
        simp only [Memory.lookup]
        by_cases hj : x.1 = j
        · rw [if_pos hj, if_neg (by omega), if_pos hj]
        · rw [if_neg hj, if_neg hj, ih]

/-! ### The access paths -/

theorem Memory.wf_write {m : Memory} (h : m.wf) (x : Word) (v : Byte) : (m.write x v).wf := by
  unfold Memory.write
  split
  · exact h
  · exact Memory.wf_store h x.isLt v

theorem Memory.wf_write16 {m : Memory} (h : m.wf) (x v : Word) : (m.write16 x v).wf :=
  Memory.wf_write (Memory.wf_write h _ _) _ _

/-- A read after an ordinary write (R42, R43). -/
theorem Memory.read_write {m : Memory} (h : m.wf) (x y : Word) (v : Byte) :
    (m.write x v).read y = if y = x ∧ 0x2000 ≤ x.toNat then v else m.read y := by
  unfold Memory.write isProtected Memory.read
  by_cases hp : x.toNat < 0x2000
  · simp only [hp, decide_true, if_true]
    rw [if_neg (by omega)]
  · simp only [hp, decide_false, Bool.false_eq_true, if_false]
    rw [Memory.lookup_store h]
    have : (y.toNat = x.toNat) ↔ y = x := BitVec.toNat_inj
    simp only [this]
    by_cases hxy : y = x
    · rw [if_pos hxy, if_pos ⟨hxy, by omega⟩]
    · rw [if_neg hxy, if_neg (by tauto)]

theorem Memory.write_protected {m : Memory} {x : Word} (h : x.toNat < 0x2000) (v : Byte) : m.write x v = m := by
  simp [Memory.write, isProtected, h]

/-- A read after a 16-bit ordinary write (R47). -/
theorem Memory.read_write16 {m : Memory} (h : m.wf) (x y v : Word) :
    (m.write16 x v).read y =
      if y = x ∧ 0x2000 ≤ x.toNat then loByte v
      else if y = x + 1 ∧ 0x2000 ≤ (x + 1).toNat then hiByte v
      else m.read y := by
  unfold Memory.write16
  rw [Memory.read_write (Memory.wf_write h _ _), Memory.read_write h]
  have hne : x ≠ x + 1 := by
    intro hx
    have := congrArg BitVec.toNat hx
    simp at this
    omega
  by_cases hy : y = x
  · subst hy
    rw [if_neg (by tauto)]
    split <;> [rfl; rw [if_neg (by tauto)]]
  · rw [if_neg (show ¬ (y = x ∧ _) by tauto), if_neg (show ¬ (y = x ∧ _) by tauto)]

/-- The privileged installer keeps the canonical form (R177). -/
theorem Memory.wf_install {m : Memory} (h : m.wf) (ws : List (Nat × Byte)) : (m.install ws).wf := by
  unfold Memory.install
  induction ws generalizing m with
  | nil => exact h
  | cons w ws ih =>
    simp only [List.foldl_cons]
    apply ih
    split
    · exact Memory.wf_store h (by omega) _
    · exact h

/-- The installer writes nothing outside the protected region (R44, R177). -/
theorem Memory.lookup_install_above {m : Memory} (h : m.wf) (ws : List (Nat × Byte)) {k : Nat} (hk : 0x2000 ≤ k) :
    (m.install ws).lookup k = m.lookup k := by
  unfold Memory.install
  induction ws generalizing m with
  | nil => rfl
  | cons w ws ih =>
    simp only [List.foldl_cons]
    split
    · rw [ih (Memory.wf_store h (by omega) _), Memory.lookup_store h, if_neg (by omega)]
    · exact ih h

/-- Reset memory is in canonical form. -/
theorem State.reset_mem_wf : State.reset.mem.wf := Memory.wf_nil

end Sys2Proof.Machine
end

