-- ==== Sys2Proof/Laws/State.lean ====
section
/-! SUPPORT. One lemma per field for each named update of the state, so that no proof unfolds a record update. -/

namespace Sys2Proof.Machine

/-! ### `State.write` -/

@[simp] theorem State.write_b (s : State) (x : Word) (v : Byte) : (s.write x v).b = s.b := rfl
@[simp] theorem State.write_c (s : State) (x : Word) (v : Byte) : (s.write x v).c = s.c := rfl
@[simp] theorem State.write_d (s : State) (x : Word) (v : Byte) : (s.write x v).d = s.d := rfl
@[simp] theorem State.write_e (s : State) (x : Word) (v : Byte) : (s.write x v).e = s.e := rfl
@[simp] theorem State.write_h (s : State) (x : Word) (v : Byte) : (s.write x v).h = s.h := rfl
@[simp] theorem State.write_l (s : State) (x : Word) (v : Byte) : (s.write x v).l = s.l := rfl
@[simp] theorem State.write_a (s : State) (x : Word) (v : Byte) : (s.write x v).a = s.a := rfl
@[simp] theorem State.write_sp (s : State) (x : Word) (v : Byte) : (s.write x v).sp = s.sp := rfl
@[simp] theorem State.write_pc (s : State) (x : Word) (v : Byte) : (s.write x v).pc = s.pc := rfl
@[simp] theorem State.write_flags (s : State) (x : Word) (v : Byte) : (s.write x v).flags = s.flags := rfl
@[simp] theorem State.write_ie (s : State) (x : Word) (v : Byte) : (s.write x v).ie = s.ie := rfl
@[simp] theorem State.write_halt (s : State) (x : Word) (v : Byte) : (s.write x v).halt = s.halt := rfl
@[simp] theorem State.write_in1 (s : State) (x : Word) (v : Byte) : (s.write x v).in1 = s.in1 := rfl
@[simp] theorem State.write_in2 (s : State) (x : Word) (v : Byte) : (s.write x v).in2 = s.in2 := rfl
@[simp] theorem State.write_shift (s : State) (x : Word) (v : Byte) : (s.write x v).shift = s.shift := rfl
@[simp] theorem State.write_shamt (s : State) (x : Word) (v : Byte) : (s.write x v).shamt = s.shamt := rfl
@[simp] theorem State.write_mem (s : State) (x : Word) (v : Byte) : (s.write x v).mem = s.mem.write x v := rfl
@[simp] theorem State.write_errLog (s : State) (x : Word) (v : Byte) : (s.write x v).errLog = s.errLog := rfl
@[simp] theorem State.write_cfg (s : State) (x : Word) (v : Byte) : (s.write x v).cfg = s.cfg := rfl
@[simp] theorem State.write_draws (s : State) (x : Word) (v : Byte) : (s.write x v).draws = s.draws := rfl

/-! ### `State.write16` -/

@[simp] theorem State.write16_b (s : State) (x v : Word) : (s.write16 x v).b = s.b := rfl
@[simp] theorem State.write16_c (s : State) (x v : Word) : (s.write16 x v).c = s.c := rfl
@[simp] theorem State.write16_d (s : State) (x v : Word) : (s.write16 x v).d = s.d := rfl
@[simp] theorem State.write16_e (s : State) (x v : Word) : (s.write16 x v).e = s.e := rfl
@[simp] theorem State.write16_h (s : State) (x v : Word) : (s.write16 x v).h = s.h := rfl
@[simp] theorem State.write16_l (s : State) (x v : Word) : (s.write16 x v).l = s.l := rfl
@[simp] theorem State.write16_a (s : State) (x v : Word) : (s.write16 x v).a = s.a := rfl
@[simp] theorem State.write16_sp (s : State) (x v : Word) : (s.write16 x v).sp = s.sp := rfl
@[simp] theorem State.write16_pc (s : State) (x v : Word) : (s.write16 x v).pc = s.pc := rfl
@[simp] theorem State.write16_flags (s : State) (x v : Word) : (s.write16 x v).flags = s.flags := rfl
@[simp] theorem State.write16_ie (s : State) (x v : Word) : (s.write16 x v).ie = s.ie := rfl
@[simp] theorem State.write16_halt (s : State) (x v : Word) : (s.write16 x v).halt = s.halt := rfl
@[simp] theorem State.write16_in1 (s : State) (x v : Word) : (s.write16 x v).in1 = s.in1 := rfl
@[simp] theorem State.write16_in2 (s : State) (x v : Word) : (s.write16 x v).in2 = s.in2 := rfl
@[simp] theorem State.write16_shift (s : State) (x v : Word) : (s.write16 x v).shift = s.shift := rfl
@[simp] theorem State.write16_shamt (s : State) (x v : Word) : (s.write16 x v).shamt = s.shamt := rfl
@[simp] theorem State.write16_mem (s : State) (x v : Word) : (s.write16 x v).mem = s.mem.write16 x v := rfl
@[simp] theorem State.write16_errLog (s : State) (x v : Word) : (s.write16 x v).errLog = s.errLog := rfl
@[simp] theorem State.write16_cfg (s : State) (x v : Word) : (s.write16 x v).cfg = s.cfg := rfl
@[simp] theorem State.write16_draws (s : State) (x v : Word) : (s.write16 x v).draws = s.draws := rfl

/-! ### `State.place` -/

@[simp] theorem State.place_b (s : State) (x : Word) (v : Byte) : (s.place x v).b = s.b := rfl
@[simp] theorem State.place_c (s : State) (x : Word) (v : Byte) : (s.place x v).c = s.c := rfl
@[simp] theorem State.place_d (s : State) (x : Word) (v : Byte) : (s.place x v).d = s.d := rfl
@[simp] theorem State.place_e (s : State) (x : Word) (v : Byte) : (s.place x v).e = s.e := rfl
@[simp] theorem State.place_h (s : State) (x : Word) (v : Byte) : (s.place x v).h = s.h := rfl
@[simp] theorem State.place_l (s : State) (x : Word) (v : Byte) : (s.place x v).l = s.l := rfl
@[simp] theorem State.place_a (s : State) (x : Word) (v : Byte) : (s.place x v).a = s.a := rfl
@[simp] theorem State.place_sp (s : State) (x : Word) (v : Byte) : (s.place x v).sp = s.sp := rfl
@[simp] theorem State.place_pc (s : State) (x : Word) (v : Byte) : (s.place x v).pc = s.pc := rfl
@[simp] theorem State.place_flags (s : State) (x : Word) (v : Byte) : (s.place x v).flags = s.flags := rfl
@[simp] theorem State.place_ie (s : State) (x : Word) (v : Byte) : (s.place x v).ie = s.ie := rfl
@[simp] theorem State.place_halt (s : State) (x : Word) (v : Byte) : (s.place x v).halt = s.halt := rfl
@[simp] theorem State.place_in1 (s : State) (x : Word) (v : Byte) : (s.place x v).in1 = s.in1 := rfl
@[simp] theorem State.place_in2 (s : State) (x : Word) (v : Byte) : (s.place x v).in2 = s.in2 := rfl
@[simp] theorem State.place_shift (s : State) (x : Word) (v : Byte) : (s.place x v).shift = s.shift := rfl
@[simp] theorem State.place_shamt (s : State) (x : Word) (v : Byte) : (s.place x v).shamt = s.shamt := rfl
@[simp] theorem State.place_mem (s : State) (x : Word) (v : Byte) : (s.place x v).mem = s.mem.store x.toNat v := rfl
@[simp] theorem State.place_errLog (s : State) (x : Word) (v : Byte) : (s.place x v).errLog = s.errLog := rfl
@[simp] theorem State.place_cfg (s : State) (x : Word) (v : Byte) : (s.place x v).cfg = s.cfg := rfl
@[simp] theorem State.place_draws (s : State) (x : Word) (v : Byte) : (s.place x v).draws = s.draws := rfl

/-! ### `State.advance` -/

@[simp] theorem State.advance_b (s : State) (n : Word) : (s.advance n).b = s.b := rfl
@[simp] theorem State.advance_c (s : State) (n : Word) : (s.advance n).c = s.c := rfl
@[simp] theorem State.advance_d (s : State) (n : Word) : (s.advance n).d = s.d := rfl
@[simp] theorem State.advance_e (s : State) (n : Word) : (s.advance n).e = s.e := rfl
@[simp] theorem State.advance_h (s : State) (n : Word) : (s.advance n).h = s.h := rfl
@[simp] theorem State.advance_l (s : State) (n : Word) : (s.advance n).l = s.l := rfl
@[simp] theorem State.advance_a (s : State) (n : Word) : (s.advance n).a = s.a := rfl
@[simp] theorem State.advance_sp (s : State) (n : Word) : (s.advance n).sp = s.sp := rfl
@[simp] theorem State.advance_pc (s : State) (n : Word) : (s.advance n).pc = s.pc + n := rfl
@[simp] theorem State.advance_flags (s : State) (n : Word) : (s.advance n).flags = s.flags := rfl
@[simp] theorem State.advance_ie (s : State) (n : Word) : (s.advance n).ie = s.ie := rfl
@[simp] theorem State.advance_halt (s : State) (n : Word) : (s.advance n).halt = s.halt := rfl
@[simp] theorem State.advance_in1 (s : State) (n : Word) : (s.advance n).in1 = s.in1 := rfl
@[simp] theorem State.advance_in2 (s : State) (n : Word) : (s.advance n).in2 = s.in2 := rfl
@[simp] theorem State.advance_shift (s : State) (n : Word) : (s.advance n).shift = s.shift := rfl
@[simp] theorem State.advance_shamt (s : State) (n : Word) : (s.advance n).shamt = s.shamt := rfl
@[simp] theorem State.advance_mem (s : State) (n : Word) : (s.advance n).mem = s.mem := rfl
@[simp] theorem State.advance_errLog (s : State) (n : Word) : (s.advance n).errLog = s.errLog := rfl
@[simp] theorem State.advance_cfg (s : State) (n : Word) : (s.advance n).cfg = s.cfg := rfl
@[simp] theorem State.advance_draws (s : State) (n : Word) : (s.advance n).draws = s.draws := rfl

/-! ### `State.jump` -/

@[simp] theorem State.jump_b (s : State) (target : Word) : (s.jump target).b = s.b := rfl
@[simp] theorem State.jump_c (s : State) (target : Word) : (s.jump target).c = s.c := rfl
@[simp] theorem State.jump_d (s : State) (target : Word) : (s.jump target).d = s.d := rfl
@[simp] theorem State.jump_e (s : State) (target : Word) : (s.jump target).e = s.e := rfl
@[simp] theorem State.jump_h (s : State) (target : Word) : (s.jump target).h = s.h := rfl
@[simp] theorem State.jump_l (s : State) (target : Word) : (s.jump target).l = s.l := rfl
@[simp] theorem State.jump_a (s : State) (target : Word) : (s.jump target).a = s.a := rfl
@[simp] theorem State.jump_sp (s : State) (target : Word) : (s.jump target).sp = s.sp := rfl
@[simp] theorem State.jump_pc (s : State) (target : Word) : (s.jump target).pc = target := rfl
@[simp] theorem State.jump_flags (s : State) (target : Word) : (s.jump target).flags = s.flags := rfl
@[simp] theorem State.jump_ie (s : State) (target : Word) : (s.jump target).ie = s.ie := rfl
@[simp] theorem State.jump_halt (s : State) (target : Word) : (s.jump target).halt = s.halt := rfl
@[simp] theorem State.jump_in1 (s : State) (target : Word) : (s.jump target).in1 = s.in1 := rfl
@[simp] theorem State.jump_in2 (s : State) (target : Word) : (s.jump target).in2 = s.in2 := rfl
@[simp] theorem State.jump_shift (s : State) (target : Word) : (s.jump target).shift = s.shift := rfl
@[simp] theorem State.jump_shamt (s : State) (target : Word) : (s.jump target).shamt = s.shamt := rfl
@[simp] theorem State.jump_mem (s : State) (target : Word) : (s.jump target).mem = s.mem := rfl
@[simp] theorem State.jump_errLog (s : State) (target : Word) : (s.jump target).errLog = s.errLog := rfl
@[simp] theorem State.jump_cfg (s : State) (target : Word) : (s.jump target).cfg = s.cfg := rfl
@[simp] theorem State.jump_draws (s : State) (target : Word) : (s.jump target).draws = s.draws := rfl

/-! ### `State.push16` -/

@[simp] theorem State.push16_b (s : State) (v : Word) : (s.push16 v).b = s.b := rfl
@[simp] theorem State.push16_c (s : State) (v : Word) : (s.push16 v).c = s.c := rfl
@[simp] theorem State.push16_d (s : State) (v : Word) : (s.push16 v).d = s.d := rfl
@[simp] theorem State.push16_e (s : State) (v : Word) : (s.push16 v).e = s.e := rfl
@[simp] theorem State.push16_h (s : State) (v : Word) : (s.push16 v).h = s.h := rfl
@[simp] theorem State.push16_l (s : State) (v : Word) : (s.push16 v).l = s.l := rfl
@[simp] theorem State.push16_a (s : State) (v : Word) : (s.push16 v).a = s.a := rfl
@[simp] theorem State.push16_sp (s : State) (v : Word) : (s.push16 v).sp = s.sp - 2 := rfl
@[simp] theorem State.push16_pc (s : State) (v : Word) : (s.push16 v).pc = s.pc := rfl
@[simp] theorem State.push16_flags (s : State) (v : Word) : (s.push16 v).flags = s.flags := rfl
@[simp] theorem State.push16_ie (s : State) (v : Word) : (s.push16 v).ie = s.ie := rfl
@[simp] theorem State.push16_halt (s : State) (v : Word) : (s.push16 v).halt = s.halt := rfl
@[simp] theorem State.push16_in1 (s : State) (v : Word) : (s.push16 v).in1 = s.in1 := rfl
@[simp] theorem State.push16_in2 (s : State) (v : Word) : (s.push16 v).in2 = s.in2 := rfl
@[simp] theorem State.push16_shift (s : State) (v : Word) : (s.push16 v).shift = s.shift := rfl
@[simp] theorem State.push16_shamt (s : State) (v : Word) : (s.push16 v).shamt = s.shamt := rfl
@[simp] theorem State.push16_mem (s : State) (v : Word) : (s.push16 v).mem = s.mem.write16 (s.sp - 2) v := rfl
@[simp] theorem State.push16_errLog (s : State) (v : Word) : (s.push16 v).errLog = s.errLog := rfl
@[simp] theorem State.push16_cfg (s : State) (v : Word) : (s.push16 v).cfg = s.cfg := rfl
@[simp] theorem State.push16_draws (s : State) (v : Word) : (s.push16 v).draws = s.draws := rfl

/-! ### `State.dropTop` -/

@[simp] theorem State.dropTop_b (s : State) : (s.dropTop).b = s.b := rfl
@[simp] theorem State.dropTop_c (s : State) : (s.dropTop).c = s.c := rfl
@[simp] theorem State.dropTop_d (s : State) : (s.dropTop).d = s.d := rfl
@[simp] theorem State.dropTop_e (s : State) : (s.dropTop).e = s.e := rfl
@[simp] theorem State.dropTop_h (s : State) : (s.dropTop).h = s.h := rfl
@[simp] theorem State.dropTop_l (s : State) : (s.dropTop).l = s.l := rfl
@[simp] theorem State.dropTop_a (s : State) : (s.dropTop).a = s.a := rfl
@[simp] theorem State.dropTop_sp (s : State) : (s.dropTop).sp = s.sp + 2 := rfl
@[simp] theorem State.dropTop_pc (s : State) : (s.dropTop).pc = s.pc := rfl
@[simp] theorem State.dropTop_flags (s : State) : (s.dropTop).flags = s.flags := rfl
@[simp] theorem State.dropTop_ie (s : State) : (s.dropTop).ie = s.ie := rfl
@[simp] theorem State.dropTop_halt (s : State) : (s.dropTop).halt = s.halt := rfl
@[simp] theorem State.dropTop_in1 (s : State) : (s.dropTop).in1 = s.in1 := rfl
@[simp] theorem State.dropTop_in2 (s : State) : (s.dropTop).in2 = s.in2 := rfl
@[simp] theorem State.dropTop_shift (s : State) : (s.dropTop).shift = s.shift := rfl
@[simp] theorem State.dropTop_shamt (s : State) : (s.dropTop).shamt = s.shamt := rfl
@[simp] theorem State.dropTop_mem (s : State) : (s.dropTop).mem = s.mem := rfl
@[simp] theorem State.dropTop_errLog (s : State) : (s.dropTop).errLog = s.errLog := rfl
@[simp] theorem State.dropTop_cfg (s : State) : (s.dropTop).cfg = s.cfg := rfl
@[simp] theorem State.dropTop_draws (s : State) : (s.dropTop).draws = s.draws := rfl

/-! ### `State.setCarry` -/

@[simp] theorem State.setCarry_b (s : State) (cy : Bool) : (s.setCarry cy).b = s.b := rfl
@[simp] theorem State.setCarry_c (s : State) (cy : Bool) : (s.setCarry cy).c = s.c := rfl
@[simp] theorem State.setCarry_d (s : State) (cy : Bool) : (s.setCarry cy).d = s.d := rfl
@[simp] theorem State.setCarry_e (s : State) (cy : Bool) : (s.setCarry cy).e = s.e := rfl
@[simp] theorem State.setCarry_h (s : State) (cy : Bool) : (s.setCarry cy).h = s.h := rfl
@[simp] theorem State.setCarry_l (s : State) (cy : Bool) : (s.setCarry cy).l = s.l := rfl
@[simp] theorem State.setCarry_a (s : State) (cy : Bool) : (s.setCarry cy).a = s.a := rfl
@[simp] theorem State.setCarry_sp (s : State) (cy : Bool) : (s.setCarry cy).sp = s.sp := rfl
@[simp] theorem State.setCarry_pc (s : State) (cy : Bool) : (s.setCarry cy).pc = s.pc := rfl
@[simp] theorem State.setCarry_flags (s : State) (cy : Bool) : (s.setCarry cy).flags = { s.flags with cy := cy } := rfl
@[simp] theorem State.setCarry_ie (s : State) (cy : Bool) : (s.setCarry cy).ie = s.ie := rfl
@[simp] theorem State.setCarry_halt (s : State) (cy : Bool) : (s.setCarry cy).halt = s.halt := rfl
@[simp] theorem State.setCarry_in1 (s : State) (cy : Bool) : (s.setCarry cy).in1 = s.in1 := rfl
@[simp] theorem State.setCarry_in2 (s : State) (cy : Bool) : (s.setCarry cy).in2 = s.in2 := rfl
@[simp] theorem State.setCarry_shift (s : State) (cy : Bool) : (s.setCarry cy).shift = s.shift := rfl
@[simp] theorem State.setCarry_shamt (s : State) (cy : Bool) : (s.setCarry cy).shamt = s.shamt := rfl
@[simp] theorem State.setCarry_mem (s : State) (cy : Bool) : (s.setCarry cy).mem = s.mem := rfl
@[simp] theorem State.setCarry_errLog (s : State) (cy : Bool) : (s.setCarry cy).errLog = s.errLog := rfl
@[simp] theorem State.setCarry_cfg (s : State) (cy : Bool) : (s.setCarry cy).cfg = s.cfg := rfl
@[simp] theorem State.setCarry_draws (s : State) (cy : Bool) : (s.setCarry cy).draws = s.draws := rfl

/-! ### `State.unimplemented` -/

@[simp] theorem State.unimplemented_b (s : State) (op : Byte) : (s.unimplemented op).b = s.b := rfl
@[simp] theorem State.unimplemented_c (s : State) (op : Byte) : (s.unimplemented op).c = s.c := rfl
@[simp] theorem State.unimplemented_d (s : State) (op : Byte) : (s.unimplemented op).d = s.d := rfl
@[simp] theorem State.unimplemented_e (s : State) (op : Byte) : (s.unimplemented op).e = s.e := rfl
@[simp] theorem State.unimplemented_h (s : State) (op : Byte) : (s.unimplemented op).h = s.h := rfl
@[simp] theorem State.unimplemented_l (s : State) (op : Byte) : (s.unimplemented op).l = s.l := rfl
@[simp] theorem State.unimplemented_a (s : State) (op : Byte) : (s.unimplemented op).a = s.a := rfl
@[simp] theorem State.unimplemented_sp (s : State) (op : Byte) : (s.unimplemented op).sp = s.sp := rfl
@[simp] theorem State.unimplemented_pc (s : State) (op : Byte) : (s.unimplemented op).pc = s.pc + 1 := rfl
@[simp] theorem State.unimplemented_flags (s : State) (op : Byte) : (s.unimplemented op).flags = s.flags := rfl
@[simp] theorem State.unimplemented_ie (s : State) (op : Byte) : (s.unimplemented op).ie = s.ie := rfl
@[simp] theorem State.unimplemented_halt (s : State) (op : Byte) : (s.unimplemented op).halt = s.halt := rfl
@[simp] theorem State.unimplemented_in1 (s : State) (op : Byte) : (s.unimplemented op).in1 = s.in1 := rfl
@[simp] theorem State.unimplemented_in2 (s : State) (op : Byte) : (s.unimplemented op).in2 = s.in2 := rfl
@[simp] theorem State.unimplemented_shift (s : State) (op : Byte) : (s.unimplemented op).shift = s.shift := rfl
@[simp] theorem State.unimplemented_shamt (s : State) (op : Byte) : (s.unimplemented op).shamt = s.shamt := rfl
@[simp] theorem State.unimplemented_mem (s : State) (op : Byte) : (s.unimplemented op).mem = s.mem := rfl
@[simp] theorem State.unimplemented_errLog (s : State) (op : Byte) : (s.unimplemented op).errLog = s.errLog ++ [{ op := op, addr := s.pc }] := rfl
@[simp] theorem State.unimplemented_cfg (s : State) (op : Byte) : (s.unimplemented op).cfg = s.cfg := rfl
@[simp] theorem State.unimplemented_draws (s : State) (op : Byte) : (s.unimplemented op).draws = s.draws := rfl

/-! ### `State.writeReg` and `State.writePair`: what they never write -/

@[simp] theorem State.writeReg_sp (s : State) (r : Reg) (v : Byte) : (s.writeReg r v).sp = s.sp := by cases r <;> rfl
@[simp] theorem State.writeReg_pc (s : State) (r : Reg) (v : Byte) : (s.writeReg r v).pc = s.pc := by cases r <;> rfl
@[simp] theorem State.writeReg_flags (s : State) (r : Reg) (v : Byte) : (s.writeReg r v).flags = s.flags := by cases r <;> rfl
@[simp] theorem State.writeReg_ie (s : State) (r : Reg) (v : Byte) : (s.writeReg r v).ie = s.ie := by cases r <;> rfl
@[simp] theorem State.writeReg_halt (s : State) (r : Reg) (v : Byte) : (s.writeReg r v).halt = s.halt := by cases r <;> rfl
@[simp] theorem State.writeReg_in1 (s : State) (r : Reg) (v : Byte) : (s.writeReg r v).in1 = s.in1 := by cases r <;> rfl
@[simp] theorem State.writeReg_in2 (s : State) (r : Reg) (v : Byte) : (s.writeReg r v).in2 = s.in2 := by cases r <;> rfl
@[simp] theorem State.writeReg_shift (s : State) (r : Reg) (v : Byte) : (s.writeReg r v).shift = s.shift := by cases r <;> rfl
@[simp] theorem State.writeReg_shamt (s : State) (r : Reg) (v : Byte) : (s.writeReg r v).shamt = s.shamt := by cases r <;> rfl
@[simp] theorem State.writeReg_mem (s : State) (r : Reg) (v : Byte) : (s.writeReg r v).mem = s.mem := by cases r <;> rfl
@[simp] theorem State.writeReg_errLog (s : State) (r : Reg) (v : Byte) : (s.writeReg r v).errLog = s.errLog := by cases r <;> rfl
@[simp] theorem State.writeReg_cfg (s : State) (r : Reg) (v : Byte) : (s.writeReg r v).cfg = s.cfg := by cases r <;> rfl
@[simp] theorem State.writeReg_draws (s : State) (r : Reg) (v : Byte) : (s.writeReg r v).draws = s.draws := by cases r <;> rfl
@[simp] theorem State.writePair_a (s : State) (p : Pair) (v : Word) : (s.writePair p v).a = s.a := by cases p <;> rfl
@[simp] theorem State.writePair_pc (s : State) (p : Pair) (v : Word) : (s.writePair p v).pc = s.pc := by cases p <;> rfl
@[simp] theorem State.writePair_flags (s : State) (p : Pair) (v : Word) : (s.writePair p v).flags = s.flags := by cases p <;> rfl
@[simp] theorem State.writePair_ie (s : State) (p : Pair) (v : Word) : (s.writePair p v).ie = s.ie := by cases p <;> rfl
@[simp] theorem State.writePair_halt (s : State) (p : Pair) (v : Word) : (s.writePair p v).halt = s.halt := by cases p <;> rfl
@[simp] theorem State.writePair_in1 (s : State) (p : Pair) (v : Word) : (s.writePair p v).in1 = s.in1 := by cases p <;> rfl
@[simp] theorem State.writePair_in2 (s : State) (p : Pair) (v : Word) : (s.writePair p v).in2 = s.in2 := by cases p <;> rfl
@[simp] theorem State.writePair_shift (s : State) (p : Pair) (v : Word) : (s.writePair p v).shift = s.shift := by cases p <;> rfl
@[simp] theorem State.writePair_shamt (s : State) (p : Pair) (v : Word) : (s.writePair p v).shamt = s.shamt := by cases p <;> rfl
@[simp] theorem State.writePair_mem (s : State) (p : Pair) (v : Word) : (s.writePair p v).mem = s.mem := by cases p <;> rfl
@[simp] theorem State.writePair_errLog (s : State) (p : Pair) (v : Word) : (s.writePair p v).errLog = s.errLog := by cases p <;> rfl
@[simp] theorem State.writePair_cfg (s : State) (p : Pair) (v : Word) : (s.writePair p v).cfg = s.cfg := by cases p <;> rfl
@[simp] theorem State.writePair_draws (s : State) (p : Pair) (v : Word) : (s.writePair p v).draws = s.draws := by cases p <;> rfl

/-! ### Reading back a register -/

theorem State.readReg_writeReg (s : State) (r q : Reg) (v : Byte) :
    (s.writeReg r v).readReg q = if q = r then v else s.readReg q := by
  cases r <;> cases q <;> rfl

@[simp] theorem State.readReg_advance (s : State) (n : Word) (r : Reg) : (s.advance n).readReg r = s.readReg r := by
  cases r <;> rfl

@[simp] theorem State.readReg_write (s : State) (x : Word) (v : Byte) (r : Reg) :
    (s.write x v).readReg r = s.readReg r := by
  cases r <;> rfl

end Sys2Proof.Machine
end

