-- ==== Sys2Proof/Laws/Ops.lean ====
section
/-! SUPPORT. For each shared operation, what it can do, said once. -/

namespace Sys2Proof.Machine

/-! ### Bytes and words -/

/-- The value of `hi : lo` (R23). -/
theorem joinBytes_toNat (hi lo : Byte) : (joinBytes hi lo).toNat = hi.toNat * 256 + lo.toNat := by
  have h : (joinBytes hi lo).toNat = hi.toNat <<< 8 ||| lo.toNat := BitVec.toNat_append hi lo
  rw [h, ← Nat.shiftLeft_add_eq_or_of_lt lo.isLt, Nat.shiftLeft_eq]

/-- `hi : lo` is `(hi << 8) | lo` (R12, R23). -/
theorem joinBytes_eq (hi lo : Byte) : joinBytes hi lo = (hi.setWidth 16 <<< 8) ||| lo.setWidth 16 := by
  have hh := hi.isLt
  have hl := lo.isLt
  apply BitVec.eq_of_toNat_eq
  rw [joinBytes_toNat, BitVec.toNat_or, BitVec.toNat_shiftLeft, BitVec.toNat_setWidth, BitVec.toNat_setWidth,
    Nat.mod_eq_of_lt (show hi.toNat < 2 ^ 16 by omega), Nat.mod_eq_of_lt (show lo.toNat < 2 ^ 16 by omega),
    Nat.mod_eq_of_lt (show hi.toNat <<< 8 < 2 ^ 16 by rw [Nat.shiftLeft_eq]; omega),
    ← Nat.shiftLeft_add_eq_or_of_lt hl, Nat.shiftLeft_eq]

theorem hiByte_toNat (v : Word) : (hiByte v).toNat = v.toNat / 256 := by
  have := v.isLt
  simp only [hiByte, BitVec.extractLsb'_toNat, Nat.shiftRight_eq_div_pow]
  omega

theorem loByte_toNat (v : Word) : (loByte v).toNat = v.toNat % 256 := by
  simp [loByte]

@[simp] theorem hiByte_joinBytes (hi lo : Byte) : hiByte (joinBytes hi lo) = hi := by
  have := lo.isLt
  apply BitVec.eq_of_toNat_eq
  rw [hiByte_toNat, joinBytes_toNat]
  omega

@[simp] theorem loByte_joinBytes (hi lo : Byte) : loByte (joinBytes hi lo) = lo := by
  have := lo.isLt
  apply BitVec.eq_of_toNat_eq
  rw [loByte_toNat, joinBytes_toNat]
  omega

@[simp] theorem joinBytes_hi_lo (v : Word) : joinBytes (hiByte v) (loByte v) = v := by
  apply BitVec.eq_of_toNat_eq
  rw [joinBytes_toNat, hiByte_toNat, loByte_toNat]
  omega

/-- The low byte as a truncation. -/
theorem loByte_eq (v : Word) : loByte v = v.setWidth 8 := by
  apply BitVec.eq_of_toNat_eq
  rw [loByte_toNat, BitVec.toNat_setWidth]

/-- The high byte as a shift. -/
theorem hiByte_eq (v : Word) : hiByte v = (v >>> 8).setWidth 8 := by
  have := v.isLt
  apply BitVec.eq_of_toNat_eq
  rw [hiByte_toNat, BitVec.toNat_setWidth, BitVec.toNat_ushiftRight, Nat.shiftRight_eq_div_pow]
  omega

/-! ### Memory -/

theorem State.read_write (s : State) (h : s.mem.wf) (x y : Word) (v : Byte) :
    (s.write x v).read y = if y = x ∧ 0x2000 ≤ x.toNat then v else s.read y :=
  Memory.read_write h x y v

theorem State.read_write16 (s : State) (h : s.mem.wf) (x y v : Word) :
    (s.write16 x v).read y =
      if y = x ∧ 0x2000 ≤ x.toNat then loByte v
      else if y = x + 1 ∧ 0x2000 ≤ (x + 1).toNat then hiByte v
      else s.read y :=
  Memory.read_write16 h x y v

/-! ### Stack and transfers -/

/-- Accepting an interrupt leaves the memory image `push16(PC)` leaves (R167, 90_conflicts C6). -/
theorem State.acceptInterrupt_eq (s : State) (h : s.mem.wf) (n : BitVec 3) :
    ∃ m : Memory, s.acceptInterrupt n =
        { s with mem := m, sp := s.sp - 2, pc := vectorAddr n, ie := false, halt := false } ∧ m.wf ∧
      ∀ y, m.read y = (s.push16 s.pc).read y := by
  have h2 : s.sp - 1 - 1 = s.sp - 2 := by bv_omega
  have h1 : s.sp - 2 + 1 = s.sp - 1 := by bv_omega
  refine ⟨(s.mem.write (s.sp - 1) (hiByte s.pc)).write (s.sp - 2) (loByte s.pc), ?_,
    Memory.wf_write (Memory.wf_write h _ _) _ _, fun y => ?_⟩
  · rw [← h2]; rfl
  · have hne : s.sp - 1 ≠ s.sp - 2 := by bv_omega
    rw [Memory.read_write (Memory.wf_write h _ _), Memory.read_write h]
    show _ = (s.mem.write16 (s.sp - 2) s.pc).read y
    rw [Memory.read_write16 h, h1]

/-- A request either changes nothing or is accepted (R167, R168). -/
theorem State.requestInterrupt_cases (s : State) (n : BitVec 3) :
    (s.ie = false ∧ s.requestInterrupt n = s) ∨ (s.ie = true ∧ s.requestInterrupt n = s.acceptInterrupt n) := by
  unfold State.requestInterrupt
  cases s.ie <;> simp

theorem State.jumpIf_cases (s : State) (cc : Cond) (x : Word) :
    (s.flags.holds cc = true ∧ s.jumpIf cc x = s.jump x) ∨
      (s.flags.holds cc = false ∧ s.jumpIf cc x = s.advance 3) := by
  unfold State.jumpIf
  cases s.flags.holds cc <;> simp

theorem State.callIf_cases (s : State) (cc : Cond) (x : Word) :
    (s.flags.holds cc = true ∧ s.callIf cc x = s.callTo x (s.pc + 3)) ∨
      (s.flags.holds cc = false ∧ s.callIf cc x = s.advance 3) := by
  unfold State.callIf
  cases s.flags.holds cc <;> simp

theorem State.returnIf_cases (s : State) (cc : Cond) :
    (s.flags.holds cc = true ∧ s.returnIf cc = s.returnTo) ∨
      (s.flags.holds cc = false ∧ s.returnIf cc = s.advance 1) := by
  unfold State.returnIf
  cases s.flags.holds cc <;> simp

/-! ### Ports -/

/-- `IN` writes A, and at an unmapped port also counts a draw (R152 to R155). -/
theorem State.portIn_cases (s : State) (port : Byte) :
    (port = 1 ∧ s.portIn port = { s with a := s.in1 }) ∨
    (port = 2 ∧ s.portIn port = { s with a := s.in2 }) ∨
    (port = 3 ∧ s.portIn port = { s with a := s.shiftResult }) ∨
    (port ≠ 1 ∧ port ≠ 2 ∧ port ≠ 3 ∧
      s.portIn port = { s with a := Config.portDraw s.draws, draws := s.draws + 1 }) := by
  unfold State.portIn
  split <;> simp_all

/-- `OUT` writes one latch or nothing (R156 to R159). -/
theorem State.portOut_cases (s : State) (port : Byte) :
    (port = 2 ∧ s.portOut port = { s with shamt := s.a.setWidth 3 }) ∨
    (port = 4 ∧ s.portOut port = { s with shift := (s.shift >>> 8) ||| (s.a.setWidth 16 <<< 8) }) ∨
    (port ≠ 2 ∧ port ≠ 4 ∧ s.portOut port = s) := by
  unfold State.portOut
  split <;> simp_all

/-! ### Undocumented codes -/

theorem State.undocumented_cases (s : State) (op : Byte) (intel : State) :
    (s.cfg.undoc = .unimplemented ∧ s.undocumented op intel = s.unimplemented op) ∨
      (s.cfg.undoc = .aliased ∧ s.undocumented op intel = intel) := by
  unfold State.undocumented
  cases s.cfg.undoc <;> simp

/-! ### Flags -/

/-- The number of 1-bits is the sum of the eight bits (R12). -/
theorem popcount_eq (v : Byte) :
    popcount v = v.toNat % 2 + v.toNat / 2 % 2 + v.toNat / 4 % 2 + v.toNat / 8 % 2 +
      v.toNat / 16 % 2 + v.toNat / 32 % 2 + v.toNat / 64 % 2 + v.toNat / 128 % 2 := by
  have bit (n : Nat) : (if n % 2 = 1 then 1 else 0) = n % 2 := by split <;> omega
  simp [popcount, List.range, List.range.loop, List.countP_cons, BitVec.getLsbD, Nat.testBit,
    Nat.shiftRight_eq_div_pow, bit]
  omega

@[simp] theorem Flags.setZSP_cy (f : Flags) (r : Byte) : (f.setZSP r).cy = f.cy := rfl
@[simp] theorem Flags.setZSP_ac (f : Flags) (r : Byte) : (f.setZSP r).ac = f.ac := rfl
@[simp] theorem Flags.setZSP_z (f : Flags) (r : Byte) : (f.setZSP r).z = (r == 0) := rfl
@[simp] theorem Flags.setZSP_s (f : Flags) (r : Byte) : (f.setZSP r).s = r.getLsbD 7 := rfl
@[simp] theorem Flags.setZSP_p (f : Flags) (r : Byte) : (f.setZSP r).p = parity8 r := rfl
@[simp] theorem Flags.ofAlu_cy (f : Flags) (r : AluResult) : (f.ofAlu r).cy = r.cy := rfl
@[simp] theorem Flags.ofAlu_ac (f : Flags) (r : AluResult) : (f.ofAlu r).ac = r.ac := rfl
@[simp] theorem Flags.ofStep_cy (f : Flags) (r : AluResult) : (f.ofStep r).cy = f.cy := rfl
@[simp] theorem Flags.ofStep_ac (f : Flags) (r : AluResult) : (f.ofStep r).ac = r.ac := rfl
@[simp] theorem Flags.ofLogic_cy (f : Flags) (r : Byte) (ac : Bool) : (f.ofLogic r ac).cy = false := rfl
@[simp] theorem Flags.ofLogic_ac (f : Flags) (r : Byte) (ac : Bool) : (f.ofLogic r ac).ac = ac := rfl

/-- The result of an addition is the bit vector sum. -/
theorem add8_res (a b : Byte) (cin : Bool) : (add8 a b cin).res.toNat = (a.toNat + b.toNat + cin.toNat) % 256 := by
  simp [add8]

/-- The result of a subtraction over the integers. -/
theorem sub8_res (mode : AcSub) (a b : Byte) (bin : Bool) :
    ((sub8 mode a b bin).res.toNat : Int) = ((a.toNat : Int) - b.toNat - bin.toNat) % 256 := by
  simp only [sub8, BitVec.toNat_ofInt]
  omega

end Sys2Proof.Machine
end

