-- ==== Sys2Proof/Laws/Exec.lean ====
section
/-! SUPPORT. What one instruction can do to memory, said once over all instructions. -/

namespace Sys2Proof.Machine

/-- Memory after an instruction: as it was, one byte written, or one word written, by the ordinary paths. -/
def State.WritesOnce (s t : State) : Prop :=
  t.mem = s.mem ∨ (∃ x v, t.mem = s.mem.write x v) ∨ (∃ x v, t.mem = s.mem.write16 x v)

theorem State.WritesOnce.wf {s t : State} (h : s.WritesOnce t) (hs : s.mem.wf) : t.mem.wf := by
  obtain h | ⟨x, v, h⟩ | ⟨x, v, h⟩ := h <;> rw [h]
  · exact hs
  · exact Memory.wf_write hs x v
  · exact Memory.wf_write16 hs x v

/-- No ordinary write reaches the protected region (R43, R47). -/
theorem State.WritesOnce.read_protected {s t : State} (h : s.WritesOnce t) (hs : s.mem.wf) {x : Word}
    (hx : x.toNat < 0x2000) : t.read x = s.read x := by
  show t.mem.read x = s.mem.read x
  obtain h | ⟨y, v, h⟩ | ⟨y, v, h⟩ := h <;> rw [h]
  · rw [Memory.read_write hs, if_neg]
    rintro ⟨rfl, _⟩
    omega
  · rw [Memory.read_write16 hs, if_neg, if_neg] <;> (rintro ⟨rfl, _⟩; omega)

theorem State.writesOnce_callIf (s : State) (cc : Cond) (x : Word) : s.WritesOnce (s.callIf cc x) := by
  obtain ⟨_, h⟩ | ⟨_, h⟩ := s.callIf_cases cc x <;> rw [h]
  · exact .inr (.inr ⟨_, _, rfl⟩)
  · exact .inl rfl

theorem State.jumpIf_mem (s : State) (cc : Cond) (x : Word) : (s.jumpIf cc x).mem = s.mem := by
  obtain ⟨_, h⟩ | ⟨_, h⟩ := s.jumpIf_cases cc x <;> rw [h] <;> rfl

theorem State.returnIf_mem (s : State) (cc : Cond) : (s.returnIf cc).mem = s.mem := by
  obtain ⟨_, h⟩ | ⟨_, h⟩ := s.returnIf_cases cc <;> rw [h] <;> rfl

theorem State.portIn_mem (s : State) (port : Byte) : (s.portIn port).mem = s.mem := by
  obtain ⟨_, h⟩ | ⟨_, h⟩ | ⟨_, h⟩ | ⟨_, _, _, h⟩ := s.portIn_cases port <;> rw [h]

theorem State.portOut_mem (s : State) (port : Byte) : (s.portOut port).mem = s.mem := by
  obtain ⟨_, h⟩ | ⟨_, h⟩ | ⟨_, _, h⟩ := s.portOut_cases port <;> rw [h]

theorem State.writesOnce_undocumented {s intel : State} (op : Byte) (h : s.WritesOnce intel) :
    s.WritesOnce (s.undocumented op intel) := by
  obtain ⟨_, e⟩ | ⟨_, e⟩ := s.undocumented_cases op intel <;> rw [e]
  · exact .inl rfl
  · exact h

/-- Every instruction that answers a next state writes memory at most once, by the ordinary paths. -/
theorem exec_writesOnce {i : Instr} {s t : State} (h : exec i s = .next t) : s.WritesOnce t := by
  cases i
  case push p =>
    cases p
    case sp => exact absurd h (by simp [exec, execPush])
    all_goals (have h := Host.Outcome.next.inj h; subst h; exact .inr (.inr ⟨_, _, rfl⟩))
  case pop p =>
    cases p
    case sp => exact absurd h (by simp [exec, execPop])
    all_goals (have h := Host.Outcome.next.inj h; subst h; exact .inl rfl)
  all_goals (have h := Host.Outcome.next.inj h; subst h)
  case movRR dst _ | movRM dst | mviR dst _ | inrR dst | dcrR dst => cases dst <;> exact .inl rfl
  case lxi p _ | inx p | dcx p => cases p <;> exact .inl rfl
  case movMR | mviM | sta | staxB | staxD | inrM | dcrM => exact .inr (.inl ⟨_, _, rfl⟩)
  case shld | xthl | call | pushPsw | rst0 | rst1 | rst2 | rst3 | rst4 | rst5 | rst6 | rst7 =>
    exact .inr (.inr ⟨_, _, rfl⟩)
  case cnz x | cz x | cnc x | cc x | cpo x | cpe x | cp x | cm x => exact s.writesOnce_callIf _ x
  case jnz x | jz x | jnc x | jc x | jpo x | jpe x | jp x | jm x => exact .inl (s.jumpIf_mem _ x)
  case rnz | rz | rnc | rc | rpo | rpe | rp | rm => exact .inl (s.returnIf_mem _)
  case inp p => exact .inl (s.portIn_mem p)
  case outp p => exact .inl (s.portOut_mem p)
  case undocDD | undocED | undocFD => exact State.writesOnce_undocumented _ (.inr (.inr ⟨_, _, rfl⟩))
  case undoc08 | undoc10 | undoc18 | undoc20 | undoc28 | undoc30 | undoc38 | undocCB | undocD9 =>
    exact State.writesOnce_undocumented _ (.inl rfl)
  all_goals exact .inl rfl

end Sys2Proof.Machine
end

