-- ==== Sys2Proof/Tests/Slice0.lean ====
section
/-! SUPPORT. The model's own tests. Expected words are the spec's encodings written bit by bit (opcode_table.json,
30_encoding R72); expected results are rows of spec/95_test_vectors.md, named by their id there. The witnesses at the
end meet the hypotheses of each statement of Obligations.lean that has some. -/

namespace Sys2Proof.Tests

open Machine Claims

/-! ### Ill-formed terms are refused -/

theorem test_push_sp_is_ill_formed : (Instr.push .sp).wellFormed = false := by decide
theorem test_pop_sp_is_ill_formed : (Instr.pop .sp).wellFormed = false := by decide
theorem test_push_hl_is_well_formed : (Instr.push .hl).wellFormed = true := by decide

/-! ### Decoding: a word per row of the opcode table, the fields' bits chosen apart -/

theorem test_empty_is_rejected : decode [] = .rejected .noOpcode := by decide
theorem test_cut_short_is_rejected : decode [0b11000011, 0x00] = .rejected (.missingOperand 0xC3) := by decide

theorem test_decode_transfer_1 :
    decode [0b01011101] = .ok (.movRR .e .l) [] ∧
    decode [0b01111110] = .ok (.movRM .a) [] ∧
    decode [0b01110001] = .ok (.movMR .c) [] ∧
    decode [0b01110110] = .ok .hlt [] ∧
    decode [0b00101110, 0x5A] = .ok (.mviR .l 0x5A) [] ∧
    decode [0b00110110, 0x5A] = .ok (.mviM 0x5A) [] ∧
    decode [0b00100001, 0xD4, 0x18] = .ok (.lxi .hl 0x18D4) [] ∧
    decode [0b00000010] = .ok .staxB [] ∧
    decode [0b00010010] = .ok .staxD [] ∧
    decode [0b00001010] = .ok .ldaxB [] := by
  decide

theorem test_decode_transfer_2 :
    decode [0b00011010] = .ok .ldaxD [] ∧
    decode [0b00100010, 0xD4, 0x18] = .ok (.shld 0x18D4) [] ∧
    decode [0b00101010, 0xD4, 0x18] = .ok (.lhld 0x18D4) [] ∧
    decode [0b00110010, 0xD4, 0x18] = .ok (.sta 0x18D4) [] ∧
    decode [0b00111010, 0xD4, 0x18] = .ok (.lda 0x18D4) [] ∧
    decode [0b11101011] = .ok .xchg [] := by
  decide

theorem test_decode_alu_1 :
    decode [0b10000000] = .ok (.addR .b) [] ∧
    decode [0b10000110] = .ok .addM [] ∧
    decode [0b11000110, 0x5A] = .ok (.adi 0x5A) [] ∧
    decode [0b10001010] = .ok (.adcR .d) [] ∧
    decode [0b10001110] = .ok .adcM [] ∧
    decode [0b11001110, 0x5A] = .ok (.aci 0x5A) [] ∧
    decode [0b10010000] = .ok (.subR .b) [] ∧
    decode [0b10010110] = .ok .subM [] ∧
    decode [0b11010110, 0x5A] = .ok (.sui 0x5A) [] ∧
    decode [0b10011010] = .ok (.sbbR .d) [] := by
  decide

theorem test_decode_alu_2 :
    decode [0b10011110] = .ok .sbbM [] ∧
    decode [0b11011110, 0x5A] = .ok (.sbi 0x5A) [] ∧
    decode [0b10100000] = .ok (.anaR .b) [] ∧
    decode [0b10100110] = .ok .anaM [] ∧
    decode [0b11100110, 0x5A] = .ok (.ani 0x5A) [] ∧
    decode [0b10101010] = .ok (.xraR .d) [] ∧
    decode [0b10101110] = .ok .xraM [] ∧
    decode [0b11101110, 0x5A] = .ok (.xri 0x5A) [] ∧
    decode [0b10110000] = .ok (.oraR .b) [] ∧
    decode [0b10110110] = .ok .oraM [] := by
  decide

theorem test_decode_alu_3 :
    decode [0b11110110, 0x5A] = .ok (.ori 0x5A) [] ∧
    decode [0b10111010] = .ok (.cmpR .d) [] ∧
    decode [0b10111110] = .ok .cmpM [] ∧
    decode [0b11111110, 0x5A] = .ok (.cpi 0x5A) [] ∧
    decode [0b00101100] = .ok (.inrR .l) [] ∧
    decode [0b00110100] = .ok .inrM [] ∧
    decode [0b00011101] = .ok (.dcrR .e) [] ∧
    decode [0b00110101] = .ok .dcrM [] ∧
    decode [0b00000011] = .ok (.inx .bc) [] ∧
    decode [0b00011011] = .ok (.dcx .de) [] := by
  decide

theorem test_decode_alu_4 :
    decode [0b00101001] = .ok (.dad .hl) [] ∧
    decode [0b00100111] = .ok .daa [] ∧
    decode [0b00000111] = .ok .rlc [] ∧
    decode [0b00001111] = .ok .rrc [] ∧
    decode [0b00010111] = .ok .ral [] ∧
    decode [0b00011111] = .ok .rar [] ∧
    decode [0b00101111] = .ok .cma [] ∧
    decode [0b00110111] = .ok .stc [] ∧
    decode [0b00111111] = .ok .cmc [] := by
  decide

theorem test_decode_branch_1 :
    decode [0b11000011, 0xD4, 0x18] = .ok (.jmp 0x18D4) [] ∧
    decode [0b11000010, 0xD4, 0x18] = .ok (.jnz 0x18D4) [] ∧
    decode [0b11001010, 0xD4, 0x18] = .ok (.jz 0x18D4) [] ∧
    decode [0b11010010, 0xD4, 0x18] = .ok (.jnc 0x18D4) [] ∧
    decode [0b11011010, 0xD4, 0x18] = .ok (.jc 0x18D4) [] ∧
    decode [0b11100010, 0xD4, 0x18] = .ok (.jpo 0x18D4) [] ∧
    decode [0b11101010, 0xD4, 0x18] = .ok (.jpe 0x18D4) [] ∧
    decode [0b11110010, 0xD4, 0x18] = .ok (.jp 0x18D4) [] ∧
    decode [0b11111010, 0xD4, 0x18] = .ok (.jm 0x18D4) [] ∧
    decode [0b11001101, 0xD4, 0x18] = .ok (.call 0x18D4) [] := by
  decide

theorem test_decode_branch_2 :
    decode [0b11000100, 0xD4, 0x18] = .ok (.cnz 0x18D4) [] ∧
    decode [0b11001100, 0xD4, 0x18] = .ok (.cz 0x18D4) [] ∧
    decode [0b11010100, 0xD4, 0x18] = .ok (.cnc 0x18D4) [] ∧
    decode [0b11011100, 0xD4, 0x18] = .ok (.cc 0x18D4) [] ∧
    decode [0b11100100, 0xD4, 0x18] = .ok (.cpo 0x18D4) [] ∧
    decode [0b11101100, 0xD4, 0x18] = .ok (.cpe 0x18D4) [] ∧
    decode [0b11110100, 0xD4, 0x18] = .ok (.cp 0x18D4) [] ∧
    decode [0b11111100, 0xD4, 0x18] = .ok (.cm 0x18D4) [] ∧
    decode [0b11001001] = .ok .ret [] ∧
    decode [0b11000000] = .ok .rnz [] := by
  decide

theorem test_decode_branch_3 :
    decode [0b11001000] = .ok .rz [] ∧
    decode [0b11010000] = .ok .rnc [] ∧
    decode [0b11011000] = .ok .rc [] ∧
    decode [0b11100000] = .ok .rpo [] ∧
    decode [0b11101000] = .ok .rpe [] ∧
    decode [0b11110000] = .ok .rp [] ∧
    decode [0b11111000] = .ok .rm [] ∧
    decode [0b11000111] = .ok .rst0 [] ∧
    decode [0b11001111] = .ok .rst1 [] ∧
    decode [0b11010111] = .ok .rst2 [] := by
  decide

theorem test_decode_branch_4 :
    decode [0b11011111] = .ok .rst3 [] ∧
    decode [0b11100111] = .ok .rst4 [] ∧
    decode [0b11101111] = .ok .rst5 [] ∧
    decode [0b11110111] = .ok .rst6 [] ∧
    decode [0b11111111] = .ok .rst7 [] ∧
    decode [0b11101001] = .ok .pchl [] ∧
    decode [0b11010101] = .ok (.push .de) [] := by
  decide

theorem test_decode_stack_io_1 :
    decode [0b11110101] = .ok .pushPsw [] ∧
    decode [0b11100001] = .ok (.pop .hl) [] ∧
    decode [0b11110001] = .ok .popPsw [] ∧
    decode [0b11100011] = .ok .xthl [] ∧
    decode [0b11111001] = .ok .sphl [] ∧
    decode [0b11010011, 0x5A] = .ok (.outp 0x5A) [] ∧
    decode [0b11011011, 0x5A] = .ok (.inp 0x5A) [] ∧
    decode [0b11110011] = .ok .di [] ∧
    decode [0b11111011] = .ok .ei [] ∧
    decode [0b00000000] = .ok .nop [] := by
  decide

theorem test_decode_undocumented_1 :
    decode [0b00001000] = .ok .undoc08 [] ∧
    decode [0b00010000] = .ok .undoc10 [] ∧
    decode [0b00011000] = .ok .undoc18 [] ∧
    decode [0b00100000] = .ok .undoc20 [] ∧
    decode [0b00101000] = .ok .undoc28 [] ∧
    decode [0b00110000] = .ok .undoc30 [] ∧
    decode [0b00111000] = .ok .undoc38 [] ∧
    decode [0b11001011] = .ok .undocCB [] ∧
    decode [0b11011001] = .ok .undocD9 [] ∧
    decode [0b11011101] = .ok .undocDD [] := by
  decide

theorem test_decode_undocumented_2 :
    decode [0b11101101] = .ok .undocED [] ∧
    decode [0b11111101] = .ok .undocFD [] := by
  decide

/-! The table's numbering: bits 7..0 the first byte, bits 15..8 the second; operand bytes the table gives no bits are 0. -/

theorem test_table_word_mvi : decodeTableWord 16 0x5A06 = some (.mviR .b 0x5A) := by decide
theorem test_table_word_jmp_opcode_only : decodeTableWord 8 0xC3 = some (.jmp 0) := by decide
theorem test_with_fetch_word_runs : step (State.reset.withFetchWord 24 0x18D4C3) = exec (.jmp 0x18D4) (State.reset.withFetchWord 24 0x18D4C3) := rfl

/-! ### One step each, from spec/95_test_vectors.md -/

/-- The part 2 start state: SP = 0x4800, PC = 0x4000 unless the row gives others. -/
def base : State := { State.reset with pc := 0x4000, sp := 0x4800 }

/-- `P_AC_SUB = intel`. -/
def intelAc : Config := { defaultConfig with acSub := .intel }

/-- `P_UNDOC = alias`. -/
def aliased : Config := { defaultConfig with undoc := .aliased }

/-- The state with these cells, and these bytes at PC. -/
def withBytes (s : State) (code : List Byte) (cells : List (Word × Byte)) : State :=
  (code.zipIdx.map (fun x => (s.pc + BitVec.ofNat 16 x.2, x.1)) ++ cells).foldl (fun t x => t.place x.1 x.2) s

/-- One step from there gives the state `after` says, everything not named in it unchanged. -/
def row (s : State) (code : List Byte) (cells : List (Word × Byte)) (after : State → State) : Bool :=
  match step (withBytes s code cells) with
  | .next t => decide (t = after (withBytes s code cells))
  | .fault _ => false
  | .refused _ => false

/-- One interrupt request likewise. -/
def request (s : State) (n : Nat) (answer : HostAnswer) (after : State → State) : Bool :=
  decide (s.hostCall (.requestInterrupt n) = ⟨after s, answer⟩)

theorem test_v1_1_mov_b_c :
    row { base with c := 0x5A } [0x41] [] (fun s => { s with b := 0x5A, pc := 0x4001 }) = true := by decide
theorem test_v1_3_mov_m_a_hl_in_rom :
    row { base with a := 0x99, h := 0x10, l := 0x00 } [0x77] [] (fun s => { s.place 0x1000 0x00 with pc := 0x4001 }) = true := by decide
theorem test_v1_4_mov_m_a_hl_in_working_storage :
    row { base with a := 0x99, h := 0x20, l := 0x00 } [0x77] [] (fun s => { s.place 0x2000 0x99 with pc := 0x4001 }) = true := by decide
theorem test_v1_5_mov_e_m_hl_in_rom :
    row { base with h := 0x03, l := 0x00 } [0x5E] [(0x0300, 0xC3)] (fun s => { s with e := 0xC3, pc := 0x4001 }) = true := by decide
theorem test_v1_6_mvi_m_d8_hl_in_video :
    row { base with h := 0x24, l := 0x00 } [0x36, 0x7E] [] (fun s => { s.place 0x2400 0x7E with pc := 0x4002 }) = true := by decide
theorem test_v1_7_lxi_sp_d16 :
    row base [0x31, 0x00, 0x24] [] (fun s => { s with sp := 0x2400, pc := 0x4003 }) = true := by decide
theorem test_v1_8_lda_a16 :
    row base [0x3A, 0xFF, 0x3F] [(0x3FFF, 0x11)] (fun s => { s with a := 0x11, pc := 0x4003 }) = true := by decide
theorem test_v1_9_sta_a16_target_0x1fff :
    row { base with a := 0x42 } [0x32, 0xFF, 0x1F] [] (fun s => { s.place 0x1FFF 0x00 with pc := 0x4003 }) = true := by decide
theorem test_v1_10_lhld_a16_address_0xffff :
    row base [0x2A, 0xFF, 0xFF] [(0xFFFF, 0x34), (0x0000, 0x12)] (fun s => { s with h := 0x12, l := 0x34, pc := 0x4003 }) = true := by decide
theorem test_v1_11_shld_a16_straddling_0x2000 :
    row { base with h := 0xAB, l := 0xCD } [0x22, 0xFF, 0x1F] [] (fun s => { (s.place 0x1FFF 0x00).place 0x2000 0xAB with pc := 0x4003 }) = true := by decide
theorem test_v1_12_ldax_d :
    row { base with d := 0x21, e := 0x00 } [0x1A] [(0x2100, 0x77)] (fun s => { s with a := 0x77, pc := 0x4001 }) = true := by decide
theorem test_v1_13_stax_b :
    row { base with a := 0x5C, b := 0x21, c := 0x01 } [0x02] [] (fun s => { s.place 0x2101 0x5C with pc := 0x4001 }) = true := by decide
theorem test_v1_14_xchg :
    row { base with d := 0x11, e := 0x22, h := 0x33, l := 0x44 } [0xEB] [] (fun s => { s with d := 0x33, e := 0x44, h := 0x11, l := 0x22, pc := 0x4001 }) = true := by decide
theorem test_v2_1_adi_0x01 :
    row { base with a := 0xFF } [0xC6, 0x01] [] (fun s => { s with a := 0x00, pc := 0x4002, flags := { s.flags with z := true, ac := true, p := true, cy := true } }) = true := by decide
theorem test_v2_2_add_b :
    row { base with a := 0x2E, b := 0x74 } [0x80] [] (fun s => { s with a := 0xA2, pc := 0x4001, flags := { s.flags with s := true, ac := true } }) = true := by decide
theorem test_v2_3_add_m :
    row { base with a := 0x0F, h := 0x50, l := 0x00 } [0x86] [(0x5000, 0x01)] (fun s => { s with a := 0x10, pc := 0x4001, flags := { s.flags with ac := true } }) = true := by decide
theorem test_v2_4_adc_c_carry_in :
    row { base with a := 0x3D, c := 0x42, flags := { base.flags with cy := true } } [0x89] [] (fun s => { s with a := 0x80, pc := 0x4001, flags := { s.flags with s := true, ac := true, cy := false } }) = true := by decide
theorem test_v2_5_adc_a_a_0xff_cy_1 :
    row { base with a := 0xFF, flags := { base.flags with cy := true } } [0x8F] [] (fun s => { s with pc := 0x4001, flags := { s.flags with s := true, ac := true, p := true } }) = true := by decide
theorem test_v2_6_aci_0x00_cy_1 :
    row { base with a := 0xFF, flags := { base.flags with cy := true } } [0xCE, 0x00] [] (fun s => { s with a := 0x00, pc := 0x4002, flags := { s.flags with z := true, ac := true, p := true } }) = true := by decide
theorem test_v2_8_sub_b_borrow_out :
    row { base with a := 0x00, b := 0x01 } [0x90] [] (fun s => { s with a := 0xFF, pc := 0x4001, flags := { s.flags with s := true, ac := true, p := true, cy := true } }) = true := by decide
theorem test_v2_10_sub_b_half_borrow :
    row { base with a := 0x10, b := 0x01, cfg := intelAc } [0x90] [] (fun s => { s with a := 0x0F, pc := 0x4001, flags := { s.flags with p := true } }) = true := by decide
theorem test_v2_11_sui_0x00_cy_1 :
    row { base with a := 0x55, flags := { base.flags with cy := true } } [0xD6, 0x00] [] (fun s => { s with pc := 0x4002, flags := { s.flags with p := true, cy := false } }) = true := by decide
theorem test_v2_12_sui_0x00_cy_1 :
    row { base with a := 0x55, cfg := intelAc, flags := { base.flags with cy := true } } [0xD6, 0x00] [] (fun s => { s with pc := 0x4002, flags := { s.flags with ac := true, p := true, cy := false } }) = true := by decide
theorem test_v2_13_sbb_b_borrow_in :
    row { base with a := 0x04, b := 0x02, flags := { base.flags with cy := true } } [0x98] [] (fun s => { s with a := 0x01, pc := 0x4001, flags := { s.flags with cy := false } }) = true := by decide
theorem test_v2_14_sbb_a_cy_1 :
    row { base with a := 0x12, flags := { base.flags with cy := true } } [0x9F] [] (fun s => { s with a := 0xFF, pc := 0x4001, flags := { s.flags with s := true, ac := true, p := true } }) = true := by decide
theorem test_v2_15_sbi_0x01_cy_1 :
    row { base with a := 0x00, flags := { base.flags with cy := true } } [0xDE, 0x01] [] (fun s => { s with a := 0xFE, pc := 0x4002, flags := { s.flags with s := true, ac := true } }) = true := by decide
theorem test_v2_16_inr_a_0xff_cy_1 :
    row { base with a := 0xFF, flags := { base.flags with cy := true } } [0x3C] [] (fun s => { s with a := 0x00, pc := 0x4001, flags := { s.flags with z := true, ac := true, p := true } }) = true := by decide
theorem test_v2_17_inr_c_0x0f :
    row { base with c := 0x0F } [0x0C] [] (fun s => { s with c := 0x10, pc := 0x4001, flags := { s.flags with ac := true } }) = true := by decide
theorem test_v2_18_inr_m_hl_in_rom :
    row { base with h := 0x00, l := 0x10 } [0x34] [(0x0010, 0x3F)] (fun s => { s with pc := 0x4001, flags := { s.flags with ac := true } }) = true := by decide
theorem test_v2_20_dcr_b_0x00 :
    row { base with b := 0x00 } [0x05] [] (fun s => { s with b := 0xFF, pc := 0x4001, flags := { s.flags with s := true, ac := true, p := true } }) = true := by decide
theorem test_v2_21_dcr_b_0x00 :
    row { base with b := 0x00, cfg := intelAc } [0x05] [] (fun s => { s with b := 0xFF, pc := 0x4001, flags := { s.flags with s := true, p := true } }) = true := by decide
theorem test_v2_22_dcr_m_0x80 :
    row { base with h := 0x50, l := 0x10 } [0x35] [(0x5010, 0x80)] (fun s => { s.place 0x5010 0x7F with pc := 0x4001, flags := { s.flags with ac := true } }) = true := by decide
theorem test_v2_23_inx_h_0xffff :
    row { base with h := 0xFF, l := 0xFF } [0x23] [] (fun s => { s with h := 0x00, l := 0x00, pc := 0x4001 }) = true := by decide
theorem test_v2_24_inx_sp_0xffff :
    row { base with sp := 0xFFFF } [0x33] [] (fun s => { s with sp := 0x0000, pc := 0x4001 }) = true := by decide
theorem test_v2_25_dcx_b_0x0000 :
    row base [0x0B] [] (fun s => { s with b := 0xFF, c := 0xFF, pc := 0x4001 }) = true := by decide
theorem test_v2_26_dad_b_overflow :
    row { base with h := 0xFF, l := 0xFF, b := 0x00, c := 0x01 } [0x09] [] (fun s => { s with h := 0x00, l := 0x00, pc := 0x4001, flags := { s.flags with cy := true } }) = true := by decide
theorem test_v2_27_dad_h_cy_1 :
    row { base with h := 0x40, l := 0x01, flags := { base.flags with cy := true } } [0x29] [] (fun s => { s with h := 0x80, l := 0x02, pc := 0x4001, flags := { s.flags with cy := false } }) = true := by decide
theorem test_v2_29_daa :
    row { base with a := 0x09, flags := { base.flags with ac := true } } [0x27] [] (fun s => { s with a := 0x0F, pc := 0x4001, flags := { s.flags with ac := false, p := true } }) = true := by decide
theorem test_v2_36_daa_0x9f :
    row { base with a := 0x9F } [0x27] [] (fun s => { s with a := 0x05, pc := 0x4001, flags := { s.flags with ac := true, p := true, cy := true } }) = true := by decide
theorem test_v3_1_ani_0x0f :
    row { base with a := 0xF0, flags := { base.flags with cy := true } } [0xE6, 0x0F] [] (fun s => { s with a := 0x00, pc := 0x4002, flags := { s.flags with z := true, ac := true, p := true, cy := false } }) = true := by decide
theorem test_v3_2_ana_b :
    row { base with a := 0xFC, b := 0x0F } [0xA0] [] (fun s => { s with a := 0x0C, pc := 0x4001, flags := { s.flags with ac := true, p := true } }) = true := by decide
theorem test_v3_3_ana_a_cy_1 :
    row { base with a := 0x81, flags := { base.flags with cy := true } } [0xA7] [] (fun s => { s with pc := 0x4001, flags := { s.flags with s := true, ac := true, p := true, cy := false } }) = true := by decide
theorem test_v3_4_ana_m :
    row { base with a := 0xFF, h := 0x50, l := 0x00 } [0xA6] [(0x5000, 0x81)] (fun s => { s with a := 0x81, pc := 0x4001, flags := { s.flags with s := true, ac := true, p := true } }) = true := by decide
theorem test_v3_5_xra_a :
    row { base with a := 0x5A, flags := { base.flags with cy := true, ac := true } } [0xAF] [] (fun s => { s with a := 0x00, pc := 0x4001, flags := { s.flags with z := true, ac := false, p := true, cy := false } }) = true := by decide
theorem test_v3_6_xra_m :
    row { base with a := 0xFF, h := 0x50, l := 0x00 } [0xAE] [(0x5000, 0x0F)] (fun s => { s with a := 0xF0, pc := 0x4001, flags := { s.flags with s := true, p := true } }) = true := by decide
theorem test_v3_7_xri_0x81 :
    row { base with a := 0x3B } [0xEE, 0x81] [] (fun s => { s with a := 0xBA, pc := 0x4002, flags := { s.flags with s := true } }) = true := by decide
theorem test_v3_8_ora_c :
    row { base with a := 0x33, c := 0x0F, flags := { base.flags with cy := true, ac := true } } [0xB1] [] (fun s => { s with a := 0x3F, pc := 0x4001, flags := { s.flags with ac := false, p := true, cy := false } }) = true := by decide
theorem test_v3_9_ora_m_both_zero :
    row { base with a := 0x00, h := 0x50, l := 0x00 } [0xB6] [(0x5000, 0x00)] (fun s => { s with pc := 0x4001, flags := { s.flags with z := true, p := true } }) = true := by decide
theorem test_v3_10_ori_0x80 :
    row { base with a := 0x01 } [0xF6, 0x80] [] (fun s => { s with a := 0x81, pc := 0x4002, flags := { s.flags with s := true, p := true } }) = true := by decide
theorem test_v3_12_cmp_b_a_b :
    row { base with a := 0x02, b := 0x05 } [0xB8] [] (fun s => { s with pc := 0x4001, flags := { s.flags with s := true, ac := true, cy := true } }) = true := by decide
theorem test_v3_13_cmp_b_a_b :
    row { base with a := 0x05, b := 0x02 } [0xB8] [] (fun s => { s with pc := 0x4001, flags := { s.flags with p := true } }) = true := by decide
theorem test_v3_14_cmp_m :
    row { base with a := 0x80, h := 0x50, l := 0x00 } [0xBE] [(0x5000, 0x01)] (fun s => { s with pc := 0x4001, flags := { s.flags with ac := true } }) = true := by decide
theorem test_v3_15_cpi_0x40 :
    row { base with a := 0x4A } [0xFE, 0x40] [] (fun s => { s with pc := 0x4002, flags := { s.flags with p := true } }) = true := by decide
theorem test_v3_16_cpi_0x00_a_0x80 :
    row { base with a := 0x80 } [0xFE, 0x00] [] (fun s => { s with pc := 0x4002, flags := { s.flags with s := true } }) = true := by decide
theorem test_v3_17_rlc_0x80 :
    row { base with a := 0x80 } [0x07] [] (fun s => { s with a := 0x01, pc := 0x4001, flags := { s.flags with cy := true } }) = true := by decide
theorem test_v3_18_rlc_0xf2_z_1 :
    row { base with a := 0xF2, flags := { base.flags with z := true } } [0x07] [] (fun s => { s with a := 0xE5, pc := 0x4001, flags := { s.flags with cy := true } }) = true := by decide
theorem test_v3_19_rrc_0x01 :
    row { base with a := 0x01 } [0x0F] [] (fun s => { s with a := 0x80, pc := 0x4001, flags := { s.flags with cy := true } }) = true := by decide
theorem test_v3_20_ral_0xb5 :
    row { base with a := 0xB5 } [0x17] [] (fun s => { s with a := 0x6A, pc := 0x4001, flags := { s.flags with cy := true } }) = true := by decide
theorem test_v3_21_ral_0x00_cy_1 :
    row { base with a := 0x00, flags := { base.flags with cy := true } } [0x17] [] (fun s => { s with a := 0x01, pc := 0x4001, flags := { s.flags with cy := false } }) = true := by decide
theorem test_v3_22_rar_0x6a_cy_1 :
    row { base with a := 0x6A, flags := { base.flags with cy := true } } [0x1F] [] (fun s => { s with a := 0xB5, pc := 0x4001, flags := { s.flags with cy := false } }) = true := by decide
theorem test_v3_23_rar_0x01 :
    row { base with a := 0x01 } [0x1F] [] (fun s => { s with a := 0x00, pc := 0x4001, flags := { s.flags with cy := true } }) = true := by decide
theorem test_v3_24_cma :
    row { base with a := 0x51 } [0x2F] [] (fun s => { s with a := 0xAE, pc := 0x4001 }) = true := by decide
theorem test_v3_25_cmc :
    row { base with flags := { base.flags with cy := true } } [0x3F] [] (fun s => { s with pc := 0x4001, flags := { s.flags with cy := false } }) = true := by decide
theorem test_v3_26_stc :
    row base [0x37] [] (fun s => { s with pc := 0x4001, flags := { s.flags with cy := true } }) = true := by decide
theorem test_v4_1_jmp_a16 :
    row base [0xC3, 0xD4, 0x18] [] (fun s => { s with pc := 0x18D4 }) = true := by decide
theorem test_v4_2_jnz_z_1 :
    row { base with flags := { base.flags with z := true } } [0xC2, 0x34, 0x12] [] (fun s => { s with pc := 0x4003 }) = true := by decide
theorem test_v4_3_jnz_z_0 :
    row base [0xC2, 0x34, 0x12] [] (fun s => { s with pc := 0x1234 }) = true := by decide
theorem test_v4_4_jpe_p_1 :
    row { base with flags := { base.flags with p := true } } [0xEA, 0x00, 0x30] [] (fun s => { s with pc := 0x3000 }) = true := by decide
theorem test_v4_5_jm_s_0 :
    row base [0xFA, 0x00, 0x30] [] (fun s => { s with pc := 0x4003 }) = true := by decide
theorem test_v4_6_jnc_at_0xfffd_cy_1 :
    row { base with pc := 0xFFFD, flags := { base.flags with cy := true } } [0xD2, 0x00, 0x30] [] (fun s => { s with pc := 0x0000 }) = true := by decide
theorem test_v4_7_call_a16 :
    row { base with pc := 0x0100, sp := 0x2400 } [0xCD, 0x00, 0x0A] [] (fun s => { (s.place 0x23FE 0x03).place 0x23FF 0x01 with sp := 0x23FE, pc := 0x0A00 }) = true := by decide
theorem test_v4_8_call_a16_sp_0x2001 :
    row { base with pc := 0x0100, sp := 0x2001 } [0xCD, 0x00, 0x0A] [] (fun s => { (s.place 0x1FFF 0x00).place 0x2000 0x01 with sp := 0x1FFF, pc := 0x0A00 }) = true := by decide
theorem test_v4_9_cc_cy_1 :
    row { base with pc := 0x0050, sp := 0x4000, flags := { base.flags with cy := true } } [0xDC, 0x00, 0x20] [] (fun s => { (s.place 0x3FFE 0x53).place 0x3FFF 0x00 with sp := 0x3FFE, pc := 0x2000 }) = true := by decide
theorem test_v4_10_cz_z_0 :
    row { base with pc := 0x0050, sp := 0x4000 } [0xCC, 0x00, 0x20] [] (fun s => { s with pc := 0x0053 }) = true := by decide
theorem test_v4_11_ret :
    row { base with sp := 0x23FE } [0xC9] [(0x23FE, 0x03), (0x23FF, 0x01)] (fun s => { s with sp := 0x2400, pc := 0x0103 }) = true := by decide
theorem test_v4_12_rnc_cy_1 :
    row { base with sp := 0x23FE, flags := { base.flags with cy := true } } [0xD0] [(0x23FE, 0x03), (0x23FF, 0x01)] (fun s => { s with pc := 0x4001 }) = true := by decide
theorem test_v4_13_rm_s_1 :
    row { base with sp := 0x3FFE, flags := { base.flags with s := true } } [0xF8] [(0x3FFE, 0x53), (0x3FFF, 0x00)] (fun s => { s with sp := 0x4000, pc := 0x0053 }) = true := by decide
theorem test_v4_14_rst_5 :
    row { base with pc := 0x0000, sp := 0x2400 } [0xEF] [] (fun s => { (s.place 0x23FE 0x01).place 0x23FF 0x00 with sp := 0x23FE, pc := 0x0028 }) = true := by decide
theorem test_v4_15_rst_0 :
    row { base with pc := 0x1234, sp := 0x2400 } [0xC7] [] (fun s => { (s.place 0x23FE 0x35).place 0x23FF 0x12 with sp := 0x23FE, pc := 0x0000 }) = true := by decide
theorem test_v4_16_rst_7 :
    row { base with pc := 0x2345, sp := 0x2400 } [0xFF] [] (fun s => { (s.place 0x23FE 0x46).place 0x23FF 0x23 with sp := 0x23FE, pc := 0x0038 }) = true := by decide
theorem test_v4_17_pchl :
    row { base with h := 0x41, l := 0x3E } [0xE9] [] (fun s => { s with pc := 0x413E }) = true := by decide
theorem test_v5_1_push_b :
    row { base with b := 0x12, c := 0x34, sp := 0x2400 } [0xC5] [] (fun s => { (s.place 0x23FE 0x34).place 0x23FF 0x12 with sp := 0x23FE, pc := 0x4001 }) = true := by decide
theorem test_v5_2_pop_d :
    row { base with sp := 0x23FE } [0xD1] [(0x23FE, 0x34), (0x23FF, 0x12)] (fun s => { s with d := 0x12, e := 0x34, sp := 0x2400, pc := 0x4001 }) = true := by decide
theorem test_v5_3_push_psw_all_flags_0 :
    row { base with sp := 0x2400 } [0xF5] [] (fun s => { (s.place 0x23FE 0x02).place 0x23FF 0x00 with sp := 0x23FE, pc := 0x4001 }) = true := by decide
theorem test_v5_4_push_psw :
    row { base with a := 0x2A, sp := 0x2400, flags := { base.flags with z := true, p := true, cy := true } } [0xF5] [] (fun s => { (s.place 0x23FE 0x47).place 0x23FF 0x2A with sp := 0x23FE, pc := 0x4001 }) = true := by decide
theorem test_v5_5_pop_psw_0xd7 :
    row { base with sp := 0x23FE } [0xF1] [(0x23FE, 0xD7), (0x23FF, 0x2A)] (fun s => { s with a := 0x2A, sp := 0x2400, pc := 0x4001, flags := { s.flags with s := true, z := true, ac := true, p := true, cy := true } }) = true := by decide
theorem test_v5_7_pop_psw_0x00_z_1_cy_1 :
    row { base with sp := 0x23FE, flags := { base.flags with z := true, cy := true } } [0xF1] [(0x23FE, 0x00), (0x23FF, 0x00)] (fun s => { s with sp := 0x2400, pc := 0x4001, flags := { s.flags with z := false, cy := false } }) = true := by decide
theorem test_v5_8_push_h_sp_0x0000 :
    row { base with h := 0xBE, l := 0xEF, sp := 0x0000 } [0xE5] [] (fun s => { (s.place 0xFFFE 0xEF).place 0xFFFF 0xBE with sp := 0xFFFE, pc := 0x4001 }) = true := by decide
theorem test_v5_9_pop_h_sp_0xffff :
    row { base with sp := 0xFFFF } [0xE1] [(0xFFFF, 0x11), (0x0000, 0x22)] (fun s => { s with h := 0x22, l := 0x11, sp := 0x0001, pc := 0x4001 }) = true := by decide
theorem test_v5_10_xthl :
    row { base with h := 0x0B, l := 0x3C, sp := 0x50AD } [0xE3] [(0x50AD, 0xF0), (0x50AE, 0x0D)] (fun s => { (s.place 0x50AD 0x3C).place 0x50AE 0x0B with h := 0x0D, l := 0xF0, pc := 0x4001 }) = true := by decide
theorem test_v5_11_sphl :
    row { base with h := 0x50, l := 0x6C } [0xF9] [] (fun s => { s with sp := 0x506C, pc := 0x4001 }) = true := by decide
theorem test_v5_14_in_3_shamt_3 :
    row { base with shift := 0x3412, shamt := 3 } [0xDB, 0x03] [] (fun s => { s with a := 0xA0, pc := 0x4002 }) = true := by decide
theorem test_v5_16_in_3_shamt_7 :
    row { base with shift := 0x3412, shamt := 7 } [0xDB, 0x03] [] (fun s => { s with a := 0x09, pc := 0x4002 }) = true := by decide
theorem test_v5_17_out_2_a_0xff :
    row { base with a := 0xFF } [0xD3, 0x02] [] (fun s => { s with pc := 0x4002, shamt := 7 }) = true := by decide
theorem test_v5_18_out_4 :
    row { base with a := 0x34, shift := 0x1200 } [0xD3, 0x04] [] (fun s => { s with pc := 0x4002, shift := 0x3412 }) = true := by decide
theorem test_v5_20_ei :
    row base [0xFB] [] (fun s => { s with pc := 0x4001, ie := true }) = true := by decide
theorem test_v5_21_di :
    row { base with ie := true } [0xF3] [] (fun s => { s with pc := 0x4001, ie := false }) = true := by decide
theorem test_v5_22_hlt :
    row { base with pc := 0x0100 } [0x76] [] (fun s => { s with pc := 0x0101, halt := true }) = true := by decide
theorem test_v5_23_step_while_halted :
    row { base with pc := 0x0101, halt := true } [0x00] [] (fun s => { s with pc := 0x0101 }) = true := by decide
theorem test_v5_24_nop_at_0xffff :
    row { base with pc := 0xFFFF } [0x00] [] (fun s => { s with pc := 0x0000 }) = true := by decide
theorem test_v6_1_request_1 : request { base with pc := 0x0123, ie := true, sp := 0x2400 } 1 .done (fun s => { (s.place 0x23FE 0x23).place 0x23FF 0x01 with sp := 0x23FE, pc := 0x0008, ie := false }) = true := by decide
theorem test_v6_3_request_2 : request { base with pc := 0x0101, ie := true, halt := true, sp := 0x2400 } 2 .done (fun s => { (s.place 0x23FE 0x01).place 0x23FF 0x01 with sp := 0x23FE, pc := 0x0010, ie := false, halt := false }) = true := by decide
theorem test_v6_5_request_8 : request { base with pc := 0x0123, ie := true, sp := 0x2400 } 8 (.refused (.vectorOutOfRange 8)) (fun s => { s with pc := 0x0123 }) = true := by decide
theorem test_v6_6_request_7 : request { base with pc := 0x0123, ie := true, sp := 0x2001 } 7 .done (fun s => { (s.place 0x1FFF 0x00).place 0x2000 0x01 with sp := 0x1FFF, pc := 0x0038, ie := false }) = true := by decide
theorem test_v6_8_opcode_0xcb :
    row base [0xCB, 0x00, 0x30] [] (fun s => { s with pc := 0x4001, errLog := [⟨0xCB, 0x4000⟩] }) = true := by decide
theorem test_v6_9_opcode_0x08 :
    row base [0x08] [] (fun s => { s with pc := 0x4001, errLog := [⟨0x08, 0x4000⟩] }) = true := by decide
theorem test_v6_10_opcode_0xdd_at_0xffff :
    row { base with pc := 0xFFFF } [0xDD] [] (fun s => { s with pc := 0x0000, errLog := [⟨0xDD, 0xFFFF⟩] }) = true := by decide

/-- `IN` from an unmapped port: the byte is a free value, the rest is as it was (R155). -/
theorem test_in_unmapped : exec (.inp 0) base = .next { base with a := Config.portDraw 0, draws := 1, pc := 0x4002 } := rfl

/-- The board's lines request vectors 1 and 2 (R166). -/
theorem test_lines : lineVector defaultConfig .midFrame = 1 ∧ lineVector defaultConfig .endFrame = 2 := by decide

/-- A request on the end-of-frame line goes to 0x0010 (R166, R167). -/
theorem test_end_frame_line : (({ base with ie := true }).hostLine .endFrame).state.pc = 0x0010 := by decide

/-- S1: a privileged write into the protected region is read back. -/
theorem test_s1_privileged_write : (base.privWrite 0x1000 0x42).state.read 0x1000 = 0x42 := by decide

/-- Bit 6 of input latch 2 set, the other bits kept (R176). -/
theorem test_set_input : (({ base with in2 := 0x83 }).setInput .in2 6 true).in2 = 0xC3 := by decide

/-- `0xCB` under `P_UNDOC = alias` is `JMP a16` (R73). -/
theorem test_aliased_jmp :
    row { base with cfg := aliased } [0xCB, 0x3C, 0x00] [] (fun s => { s with pc := 0x003C }) = true := by decide

/-! ### Witnesses: the hypotheses of the statements can be met -/

/-- A state with code and data in memory, SP at the lowest place where both stack bytes are writable. -/
def demo : State := { State.reset with pc := 0x4000, sp := 0x2002, h := 0x20, mem := [(0x1FFF, 0xC9), (0x4000, 0x3C)] }

/-- An accepted image: four segments of 2 KiB. -/
def fullImage : FirmwareImage := List.replicate 4 (List.replicate 0x800 0x76)

theorem test_four_equal_segments (n : Nat) (v : Byte) :
    imageAccepted (List.replicate 4 (List.replicate n v)) = (n == 0x800) := by
  simp [imageAccepted]

theorem test_reset_inv : State.reset.Inv := by decide
theorem test_demo_inv : demo.Inv := by decide

theorem test_witness_DecodeOfEncode : (Instr.push .hl).wellFormed = true ∧ (Instr.pop .bc).wellFormed = true := by decide
theorem test_witness_EncodeOfDecode : decode [0xC3, 0x00, 0x40, 0x76] = .ok (.jmp 0x4000) [0x76] ∧
    (Instr.jmp 0x4000).wellFormed = true ∧ encode (.jmp 0x4000) = encode (.jmp (joinBytes 0x40 0x00)) := by decide
theorem test_witness_StepRunsDecoded : demo.halt = false ∧ decode (bytesAtPc demo) = .ok (.inrR .a) [0, 0] := by decide

theorem test_witness_WellFormedInstructionsRun :
    (Instr.push .hl).wellFormed = true ∧ (Instr.push .sp).wellFormed = false := by decide

/-- A request for the last number while disabled, and while enabled, on a halted core. -/
theorem test_witness_HaltedCoreIsIdle :
    ({ demo with halt := true } : State).halt = true ∧ ({ demo with halt := true } : State).ie = false ∧ 7 < 8 ∧
    ({ demo with halt := true, ie := true } : State).halt = true ∧
    ({ demo with halt := true, ie := true } : State).ie = true := by decide
theorem test_witness_HaltedCoreIsIdle_call :
    (∀ image, HostCall.executeN 3 ≠ .reset image) ∧ (∀ n, HostCall.executeN 3 = .requestInterrupt n → n < 8 → demo.ie = false) :=
  ⟨fun _ h => (nomatch h), fun _ h => (nomatch h)⟩

theorem test_witness_PcAdvancesByLength : transfers demo.cfg (.sta 0x4000) = false ∧
    exec (.sta 0x4000) demo = .next ((demo.write 0x4000 0).advance 3) := ⟨rfl, rfl⟩

/-- The last protected address and the first unprotected one. -/
theorem test_witness_OrdinaryWrite : demo.Inv ∧ (0x1FFF : Word).toNat < 0x2000 ∧ 0x2000 ≤ (0x2000 : Word).toNat := by decide
theorem test_witness_PrivilegedWriteAndRegions : demo.Inv ∧ (0x1FFF : Word).toNat < 0x2000 ∧
    0x2000 ≤ (0x2000 : Word).toNat ∧ (⟨.vram, 0x2400, 0x4000⟩ : RegionRow) ∈ regionTable := by decide
theorem test_witness_WordAccesses : demo.Inv := test_demo_inv
theorem test_witness_CanonicalMemoriesAgree : Memory.wf [(0x2000, 1)] ∧ Memory.wf ((Memory.store [] 0x2000 2).store 0x2000 1) ∧
    ∀ x, Memory.read [(0x2000, 1)] x = Memory.read ((Memory.store [] 0x2000 2).store 0x2000 1) x :=
  ⟨by decide, by decide, fun _ => rfl⟩
theorem test_witness_StepKeepsCanonicalMemory : demo.Inv ∧ ∃ t, step demo = .next t := ⟨test_demo_inv, _, rfl⟩
theorem test_witness_SchedulesKeepCanonicalMemory : demo.Inv := test_demo_inv
theorem test_witness_VideoView : 0 < 7168 ∧ 7167 < 7168 := by decide
theorem test_witness_ProgramCannotModifyRom : demo.Inv ∧
    [HostCall.step, .executeN 2, .requestInterrupt 7].all HostCall.ofProgram = true ∧ (0x1FFF : Word).toNat < 0x2000 := by
  decide

/-- Stores into ROM and into working storage. -/
theorem test_witness_ByteStores : demo.Inv ∧ State.reset.Inv := by decide
theorem test_witness_HlMemoryTransfers : demo.Inv := test_demo_inv
theorem test_witness_MemoryIncrementDecrement : demo.Inv ∧ (0 : Byte) = demo.read (joinBytes demo.h demo.l) := by decide
theorem test_witness_Subtractions : demo.cfg.acSub = .borrow ∧ ({ demo with cfg := intelAc } : State).cfg.acSub = .intel := by
  decide
theorem test_witness_DecimalAdjust : 15 = (0x9F : Byte).toNat % 16 ∧ 9 = (0x9F : Byte).toNat / 16 ∧
    6 = (if demo.flags.ac = true ∨ 9 < 15 then 6 else 0) ∧
    0x60 = (if demo.flags.cy = true ∨ 9 < 9 ∨ (9 ≤ 9 ∧ 9 < 15) then 0x60 else 0) := by decide

/-- Every condition holds somewhere and fails somewhere. -/
theorem test_witness_conditions : ∀ cc : Cond, (∃ f, CondTrue f cc) ∧ (∃ f, ¬ CondTrue f cc) := by
  intro cc
  cases cc
  case z | c | pe | m => exact ⟨⟨⟨true, true, true, true, true⟩, rfl⟩, ⟨false, false, false, false, false⟩, Bool.noConfusion⟩
  case nz | nc | po | p => exact ⟨⟨⟨false, false, false, false, false⟩, rfl⟩, ⟨true, true, true, true, true⟩, Bool.noConfusion⟩
theorem test_witness_Jumps : ((.jm, 0xFA, .m) : (Word → Instr) × Byte × Cond) ∈ jumpsOn := by simp [jumpsOn]
theorem test_witness_CallsAndRestarts : demo.Inv ∧ 0x2000 ≤ (demo.sp - 2).toNat ∧ 0x2000 ≤ (demo.sp - 1).toNat ∧
    ((.rst7, 0xFF, 7) : Instr × Byte × Nat) ∈ restarts := by decide
theorem test_witness_ConditionalCalls : demo.Inv ∧ ((.cpe, 0xEC, .pe) : (Word → Instr) × Byte × Cond) ∈ callsOn :=
  ⟨test_demo_inv, by simp [callsOn]⟩
theorem test_witness_Returns : ((0xC9 : Word) <<< 8 ||| 0 : Word) =
    ((demo.read (0x1FFE + 1)).setWidth 16 <<< 8) ||| (demo.read 0x1FFE).setWidth 16 ∧
    ((.rp, 0xF0, .p) : Instr × Byte × Cond) ∈ returnsOn := by decide
theorem test_witness_ReturnFromInterrupt : ({ demo with ie := true } : State).Inv ∧
    ({ demo with ie := true } : State).ie = true ∧ 0x2000 ≤ (demo.sp - 2).toNat ∧ 0x2000 ≤ (demo.sp - 1).toNat := by
  decide
theorem test_witness_Pushes : demo.Inv ∧ Pair.hl ≠ .sp := by decide
theorem test_witness_Pops : (0xC9 : Byte) = ({ demo with sp := 0x1FFF } : State).read 0x1FFF ∧
    (0 : Byte) = ({ demo with sp := 0x1FFF } : State).read (0x1FFF + 1) := by decide
theorem test_witness_PopUndoesPush :
    demo.Inv ∧ 0x2000 ≤ (demo.sp - 2).toNat ∧ 0x2000 ≤ (demo.sp - 1).toNat ∧ Pair.bc ≠ .sp := by decide

/-- Ports next to the mapped ones. -/
theorem test_witness_PortInput : ((0 : Byte) ≠ 1 ∧ (0 : Byte) ≠ 2 ∧ (0 : Byte) ≠ 3) ∧
    ((4 : Byte) ≠ 1 ∧ (4 : Byte) ≠ 2 ∧ (4 : Byte) ≠ 3) := by decide
theorem test_witness_PortOutput : (3 : Byte) ≠ 2 ∧ (3 : Byte) ≠ 4 ∧ (5 : Byte) ≠ 2 ∧ (5 : Byte) ≠ 4 := by decide
theorem test_witness_UnimplementedEvent :
    demo.cfg.undoc = .unimplemented ∧ ((.undocFD, 0xFD) : Instr × Byte) ∈ undocumentedInstrs := by decide
theorem test_witness_UndocumentedAliases : ({ demo with cfg := aliased } : State).cfg.undoc = .aliased ∧
    (0 : Word) = ((demo.read (demo.pc + 2)).setWidth 16 <<< 8) ||| (demo.read (demo.pc + 1)).setWidth 16 := by decide

/-- One instruction of each kind of flag writer. -/
theorem test_witness_FlagWriters : flagWrite .nop = .none ∧ flagWrite .stc = .carry ∧ flagWrite .inrM = .allButCarry ∧
    Instr.anaM ∈ [.anaR .b, .anaM, .ani 0] ∧ Instr.oraM ∈ [.xraR .b, .xraM, .xri 0, .oraR .b, .oraM, .ori 0] := by decide
theorem test_witness_FlagWriters_run : ∀ i ∈ [Instr.nop, .stc, .inrM, .anaM, .oraM], ∃ t, exec i demo = .next t := by
  intro i hi
  simp only [List.mem_cons, List.not_mem_nil, or_false] at hi
  rcases hi with rfl | rfl | rfl | rfl | rfl <;> exact ⟨_, rfl⟩
theorem test_witness_LatchWriters : exec .nop { demo with halt := true } = .next { demo with halt := true, pc := 0x4001 } ∧
    Instr.nop ≠ .ei ∧ Instr.nop ≠ .di ∧ Instr.nop ≠ .hlt ∧ Instr.nop ≠ .outp 4 ∧ Instr.nop ≠ .outp 2 :=
  ⟨rfl, by decide⟩
theorem test_witness_StackPointerWriters : writesSp demo.cfg (.inx .hl) = false ∧ ∃ t, exec (.inx .hl) demo = .next t :=
  ⟨rfl, _, rfl⟩
theorem test_witness_ErrorLogGrowth : ∃ t, step demo = .next t := ⟨_, rfl⟩
theorem test_witness_ErrorLogIsNotRead : ∃ t, step (withBytes base [0xCB] []) = .next t := ⟨_, rfl⟩
theorem test_witness_InterruptDelivery : demo.Inv ∧ (0 < 8 ∧ 7 < 8 ∧ 8 ≤ 8) ∧ demo.ie = false ∧
    ({ demo with ie := true } : State).ie = true ∧ ({ demo with ie := true } : State).Inv := by decide
theorem test_witness_StuckCoreStaysStuck : ({ demo with halt := true } : State).stuck ∧
    [HostCall.requestInterrupt 1, .step].all HostCall.ofProgram = true := ⟨⟨rfl, rfl⟩, by decide⟩

/-- An accepted image, and rejected ones: a segment short, and a segment one byte too long. -/
theorem test_witness_FirmwareLoad : demo.Inv ∧ imageAccepted fullImage = true ∧ imageAccepted [[1], [2], [3]] = false ∧
    imageAccepted (List.replicate 4 (List.replicate 0x801 0)) = false :=
  ⟨test_demo_inv, test_four_equal_segments 0x800 0x76, by decide, test_four_equal_segments 0x801 0⟩
theorem test_witness_HostReset : imageAccepted fullImage = true ∧ (0x1FFF : Word).toNat < 0x2000 ∧
    0x2000 ≤ (0x2000 : Word).toNat := ⟨test_four_equal_segments 0x800 0x76, by decide, by decide⟩
theorem test_witness_InputSetterAndSnapshot : 0 < 8 ∧ 7 < 8 := by decide

end Sys2Proof.Tests
end

-- Proofs of the statements of spec family 00_scope, with the facts on the decoder, stores and host calls they rest on
section
/-! SUPPORT. How many bytes an opcode reads, and that the decoder uses no others (R67, R70). -/

namespace Sys2Proof

open Machine

/-- The eight values of a 3-bit opcode field. -/
theorem opcodeField_cases (k : BitVec 3) :
    k = 0#3 ∨ k = 1#3 ∨ k = 2#3 ∨ k = 3#3 ∨ k = 4#3 ∨ k = 5#3 ∨ k = 6#3 ∨ k = 7#3 := by
  revert k; decide

/-- An instruction has one, two or three bytes (R67). -/
theorem Instr.length_cases (i : Instr) : i.length = 1 ∨ i.length = 2 ∨ i.length = 3 := by
  unfold Instr.length
  split <;> simp

/-- Two decodings of one opcode that can differ only in an operand their length takes: an instruction of one byte has
none, one of two bytes has byte 2, which `sameByte` says is the same. -/
structure SameRow (i j : Instr) (sameByte : Prop) : Prop where
  length_eq : i.length = j.length
  eq_of_one : j.length = 1 → i = j
  eq_of_two : j.length = 2 → sameByte → i = j

theorem SameRow.refl (i : Instr) (p : Prop) : SameRow i i p := ⟨rfl, fun _ => rfl, fun _ _ => rfl⟩

theorem decodeLow_sameRow (y z : BitVec 3) (d d' : Byte) (w w' : Word) :
    SameRow (decodeLow y z d w) (decodeLow y z d' w') (d = d') := by
  rcases opcodeField_cases z with rfl | rfl | rfl | rfl | rfl | rfl | rfl | rfl
  · exact SameRow.refl _ _
  · -- LXI and DAD
    unfold decodeLow
    cases y.getLsbD 0 <;> constructor <;> simp [Instr.length]
  · -- loads and stores of A and HL
    rcases opcodeField_cases y with rfl | rfl | rfl | rfl | rfl | rfl | rfl | rfl <;>
      constructor <;> simp [decodeLow, Instr.length]
  · exact SameRow.refl _ _
  · exact SameRow.refl _ _
  · exact SameRow.refl _ _
  · -- MVI
    unfold decodeLow
    cases regOfCode y <;> constructor <;> simp [Instr.length]
  · exact SameRow.refl _ _

theorem decodeHigh_sameRow (y z : BitVec 3) (d d' : Byte) (w w' : Word) :
    SameRow (decodeHigh y z d w) (decodeHigh y z d' w') (d = d') := by
  rcases opcodeField_cases z with rfl | rfl | rfl | rfl | rfl | rfl | rfl | rfl
  case inl | inr.inl | inr.inr.inr.inr.inr.inr.inr =>
    -- returns, POP and its neighbours, restarts: no operand
    exact SameRow.refl _ _
  all_goals
    rcases opcodeField_cases y with rfl | rfl | rfl | rfl | rfl | rfl | rfl | rfl <;>
      constructor <;> simp [decodeHigh, Instr.length]

/-- Bytes 2 and 3 do not choose the instruction; they only fill the operands its length takes (R67, R70). -/
theorem decodeBytes_sameRow (op b b' c c' : Byte) :
    SameRow (decodeBytes op b c) (decodeBytes op b' c') (b = b') := by
  unfold decodeBytes
  split
  · exact decodeLow_sameRow ..
  · exact SameRow.refl _ _
  · exact SameRow.refl _ _
  · exact decodeHigh_sameRow ..

/-- The opcode byte alone fixes the length (R67, R75). -/
theorem length_decodeBytes (op b c : Byte) : (decodeBytes op b c).length = opcodeLength op :=
  (decodeBytes_sameRow op b 0 c 0).length_eq

theorem decodeBytes_of_length_one {op : Byte} (h : opcodeLength op = 1) (b c : Byte) :
    decodeBytes op b c = decodeBytes op 0 0 :=
  (decodeBytes_sameRow op b 0 c 0).eq_of_one h

theorem decodeBytes_of_length_two {op : Byte} (h : opcodeLength op = 2) (b c : Byte) :
    decodeBytes op b c = decodeBytes op b 0 :=
  (decodeBytes_sameRow op b b c 0).eq_of_two (by rw [length_decodeBytes, h]) rfl

/-- Three bytes always decode, to what the fetch makes of them; what the length does not take is left over (R62, R75). -/
theorem decode_three (op b c : Byte) :
    decode [op, b, c] = .ok (decodeBytes op b c) ([op, b, c].drop (opcodeLength op)) := by
  rcases (decodeBytes op 0 0).length_cases with h | h | h <;> change opcodeLength op = _ at h
  · simp [decode, h, decodeBytes_of_length_one h b c]
  · simp [decode, h, decodeBytes_of_length_two h b c]
  · simp [decode, h]

end Sys2Proof

namespace Sys2Proof.Machine

/-- What the core fetches is what the decoder makes of the three bytes at `PC` (R15, R62). -/
theorem State.decode_bytesAtPc (s : State) :
    decode (Claims.bytesAtPc s) = .ok s.fetch ((Claims.bytesAtPc s).drop (opcodeLength (s.read s.pc))) :=
  decode_three ..

/-- R60: a core that is not halted runs what it fetches. -/
theorem step_of_not_halted {s : State} (h : s.halt = false) : step s = exec s.fetch s := by
  simp [step, cycle, h]

end Sys2Proof.Machine
end

section
/-! SUPPORT. Stores as the statements write them, host requests and interrupt vectors. -/

namespace Sys2Proof.Machine

open Claims

theorem State.storedWord_write16 {s : State} (h : s.Inv) (x v : Word) : StoredWord s (s.write16 x v) x v := by
  intro y
  rw [State.read_write16 s h, loByte_eq, hiByte_eq]

/-- What `push16` stores (R143). -/
theorem State.storedWord_push16 {s : State} (h : s.Inv) (v : Word) : StoredWord s (s.push16 v) (s.sp - 2) v :=
  State.storedWord_write16 h (s.sp - 2) v

theorem State.hostInterrupt_of_lt (s : State) {n : Nat} (h : n < 8) :
    s.hostInterrupt n = ⟨s.requestInterrupt (BitVec.ofNat 3 n), .done⟩ :=
  if_pos h

theorem State.hostInterrupt_of_le (s : State) {n : Nat} (h : 8 ≤ n) :
    s.hostInterrupt n = ⟨s, .refused (.vectorOutOfRange n)⟩ :=
  if_neg (Nat.not_lt.mpr h)

theorem State.requestInterrupt_of_enabled {s : State} (h : s.ie = true) (n : BitVec 3) :
    s.requestInterrupt n = s.acceptInterrupt n :=
  if_pos h

theorem State.requestInterrupt_of_disabled {s : State} (h : s.ie = false) (n : BitVec 3) :
    s.requestInterrupt n = s := by
  simp [State.requestInterrupt, h]

/-- The vector address is `8n` (R167). -/
theorem vectorAddr_ofNat {n : Nat} (h : n < 8) : vectorAddr (BitVec.ofNat 3 n) = BitVec.ofNat 16 (8 * n) := by
  apply BitVec.eq_of_toNat_eq
  simp [vectorAddr, Nat.shiftLeft_eq]
  omega

end Sys2Proof.Machine
end

section
/-! SUPPORT. The undocumented codes under the alias setting (R73). -/

namespace Sys2Proof.Machine

/-- The trailing address word of an undocumented code: byte 2 low, byte 3 high (R15, R70). -/
theorem State.imm16_eq (s : State) :
    s.imm16 = ((s.read (s.pc + 2)).setWidth 16 <<< 8) ||| (s.read (s.pc + 1)).setWidth 16 := by
  have h : s.pc + 1 + 1 = s.pc + 2 := by bv_omega
  rw [← joinBytes_eq, ← h]
  rfl

theorem State.undocumented_of_aliased {s : State} (h : s.cfg.undoc = .aliased) (op : Byte) (intel : State) :
    s.undocumented op intel = intel := by
  simp [State.undocumented, h]

end Sys2Proof.Machine
end

section
namespace Sys2Proof.Proofs

open Machine Claims

/-- R167: what an accepted request changes. The word is written byte by byte, but reads as `push16(PC)` leaves it. -/
theorem hostCall_requestInterrupt_accepted {s : State} {n : Nat} (hs : s.Inv) (hn : n < 8) (hie : s.ie = true) :
    ∃ t, s.hostCall (.requestInterrupt n) = ⟨t, .done⟩ ∧
      t = { s with mem := t.mem, sp := s.sp - 2, pc := BitVec.ofNat 16 (8 * n), ie := false, halt := false } ∧
      StoredWord s t (s.sp - 2) s.pc := by
  obtain ⟨m, hacc, -, hread⟩ := s.acceptInterrupt_eq hs (BitVec.ofNat 3 n)
  rw [vectorAddr_ofNat hn] at hacc
  refine ⟨s.acceptInterrupt (BitVec.ofNat 3 n), ?_, ?_, fun y => ?_⟩
  · rw [State.hostCall, State.hostInterrupt_of_lt s hn, State.requestInterrupt_of_enabled hie]
  · rw [hacc]
  · rw [hacc, ← State.storedWord_push16 hs s.pc y]
    exact hread y

/-- Settles O55: accepted by `State.acceptInterrupt_eq`, ignored and refused by the cases of the request. -/
theorem interruptDelivery : Obligations.InterruptDelivery := by
  refine ⟨fun _ => ⟨rfl, rfl⟩, rfl, fun s n hs =>
    ⟨hostCall_requestInterrupt_accepted hs, fun hn hie => ?_, State.hostInterrupt_of_le s⟩⟩
  rw [State.hostCall, State.hostInterrupt_of_lt s hn, State.requestInterrupt_of_disabled hie]

/-- Settles O5: the three bytes at `PC` decode to what the core fetches. -/
theorem stepRunsDecoded : Obligations.StepRunsDecoded := by
  intro s i rest hhalt hdec
  obtain ⟨hi, -⟩ := Decoded.ok.inj (s.decode_bytesAtPc.symm.trans hdec)
  rw [step_of_not_halted hhalt, hi]

/-- Settles O49: each arm is `State.undocumented` of what the aliased instruction does. -/
theorem undocumentedAliases : Obligations.UndocumentedAliases := by
  rintro s addr halias rfl
  rw [← State.imm16_eq]
  have run (op : Byte) (intel : State) :
      (Host.Outcome.next (s.undocumented op intel) : Host.Outcome State Fault Refusal) = .next intel :=
    congrArg _ (State.undocumented_of_aliased halias op intel)
  refine ⟨fun i hi => ?_, run .., run .., fun i hi => ?_⟩
  · simp only [List.mem_cons, List.not_mem_nil, or_false] at hi
    rcases hi with rfl | rfl | rfl | rfl | rfl | rfl | rfl <;> exact run ..
  · simp only [List.mem_cons, List.not_mem_nil, or_false] at hi
    rcases hi with rfl | rfl | rfl <;> exact run ..

end Sys2Proof.Proofs
end

-- Proofs of the statements of spec family 10_state, with the facts on instruction effects, the error log, firmware
-- loads and the status word they rest on
section
/-! SUPPORT. What an instruction can do to everything but general registers, memory, PC and the draw counter, said once
over all instructions. -/

namespace Sys2Proof.Machine

open Claims

/-- Which change of the flags each entry of R27's table allows. -/
def FlagsMay : FlagWrite → Flags → Flags → Prop
  | .none, f, f' => f' = f
  | .carry, f, f' => f' = { f with cy := f'.cy }
  | .allButCarry, f, f' => f'.cy = f.cy
  | .all, _, _ => True

/-- Every entry of the table allows the flags to stay. -/
theorem FlagsMay.refl (w : FlagWrite) (f : Flags) : FlagsMay w f f := by
  cases w
  · rfl
  · rfl
  · rfl
  · trivial

/-- No latch, setting or record of the error log differs. -/
def State.Computes (s t : State) : Prop :=
  t = { s with b := t.b, c := t.c, d := t.d, e := t.e, h := t.h, l := t.l, a := t.a, sp := t.sp, pc := t.pc,
               flags := t.flags, mem := t.mem, draws := t.draws }

/-- What an instruction can do: compute, under the tables of R25 and R27; write the one latch it is for; or append the
Unimplemented record. -/
inductive State.Effect (s : State) : Instr → State → Prop
  | computes {i : Instr} {t : State} (keeps : s.Computes t) (flags : FlagsMay (flagWrite i) s.flags t.flags)
      (sp : writesSp s.cfg i = false → t.sp = s.sp) : s.Effect i t
  | ei : s.Effect .ei (State.advance { s with ie := true } 1)
  | di : s.Effect .di (State.advance { s with ie := false } 1)
  | hlt : s.Effect .hlt (State.advance { s with halt := true } 1)
  | outp (port : Byte) : s.Effect (.outp port) ((s.portOut port).advance 2)
  | unimplemented {i : Instr} {op : Byte} (code : undocumentedInstrs.lookup i = some op)
      (policy : s.cfg.undoc = .unimplemented) : s.Effect i (s.unimplemented op)

/-- A writer of `SP` (R25) may do to it what it does. -/
theorem State.Effect.stack {s t : State} {i : Instr} (hi : writesSp s.cfg i = true) (keeps : s.Computes t)
    (flags : FlagsMay (flagWrite i) s.flags t.flags) : s.Effect i t :=
  .computes keeps flags fun hn => Bool.noConfusion (hi.symm.trans hn)

theorem State.effect_jumpIf (s : State) (i : Instr) (cc : Cond) (x : Word) : s.Effect i (s.jumpIf cc x) := by
  obtain ⟨_, h⟩ | ⟨_, h⟩ := s.jumpIf_cases cc x <;> rw [h] <;> exact .computes rfl (.refl _ _) fun _ => rfl

section
variable {s : State} {i : Instr} (hi : writesSp s.cfg i = true)
include hi

theorem State.effect_push16 (v : Word) : s.Effect i ((s.push16 v).advance 1) := .stack hi rfl (.refl _ _)

theorem State.effect_callTo (x back : Word) : s.Effect i (s.callTo x back) := .stack hi rfl (.refl _ _)

theorem State.effect_returnTo : s.Effect i s.returnTo := .stack hi rfl (.refl _ _)

theorem State.effect_callIf (cc : Cond) (x : Word) : s.Effect i (s.callIf cc x) := by
  obtain ⟨_, h⟩ | ⟨_, h⟩ := s.callIf_cases cc x <;> rw [h]
  · exact State.effect_callTo hi ..
  · exact .computes rfl (.refl _ _) fun _ => rfl

theorem State.effect_returnIf (cc : Cond) : s.Effect i (s.returnIf cc) := by
  obtain ⟨_, h⟩ | ⟨_, h⟩ := s.returnIf_cases cc <;> rw [h]
  · exact State.effect_returnTo hi
  · exact .computes rfl (.refl _ _) fun _ => rfl

end

theorem State.effect_undocumented {s intel : State} {i : Instr} {op : Byte}
    (hop : undocumentedInstrs.lookup i = some op) (h : s.cfg.undoc = .aliased → s.Effect i intel) :
    s.Effect i (s.undocumented op intel) := by
  obtain ⟨hu, e⟩ | ⟨ha, e⟩ := s.undocumented_cases op intel <;> rw [e]
  · exact .unimplemented hop hu
  · exact h ha

/-- `IN` writes A and may count a draw (R152). -/
theorem State.effect_inp (s : State) (i : Instr) (port : Byte) : s.Effect i ((s.portIn port).advance 2) := by
  obtain ⟨_, h⟩ | ⟨_, h⟩ | ⟨_, h⟩ | ⟨_, _, _, h⟩ := s.portIn_cases port <;> rw [h] <;>
    exact .computes rfl (.refl _ _) fun _ => rfl

/-- Every instruction that answers a next state has one of the effects of `State.Effect`. -/
theorem exec_effect {i : Instr} {s t : State} (h : exec i s = .next t) : s.Effect i t := by
  cases i
  case push p =>
    cases p
    case sp => exact absurd h (by simp [exec, execPush])
    all_goals (obtain rfl := Host.Outcome.next.inj h; exact State.effect_push16 rfl _)
  case pop p =>
    cases p
    case sp => exact absurd h (by simp [exec, execPop])
    all_goals (obtain rfl := Host.Outcome.next.inj h; exact .stack rfl rfl (.refl _ _))
  all_goals obtain rfl := Host.Outcome.next.inj h
  case ei => exact .ei
  case di => exact .di
  case hlt => exact .hlt
  case outp port => exact .outp port
  case inp port => exact s.effect_inp _ port
  case jnz x | jz x | jnc x | jc x | jpo x | jpe x | jp x | jm x => exact s.effect_jumpIf _ _ x
  case call x => exact State.effect_callTo rfl x _
  case cnz x | cz x | cnc x | cc x | cpo x | cpe x | cp x | cm x => exact State.effect_callIf rfl _ x
  case rst0 | rst1 | rst2 | rst3 | rst4 | rst5 | rst6 | rst7 => exact State.effect_callTo rfl _ _
  case ret => exact State.effect_returnTo rfl
  case rnz | rz | rnc | rc | rpo | rpe | rp | rm => exact State.effect_returnIf rfl _
  case pushPsw => exact State.effect_push16 rfl _
  case popPsw => exact .stack rfl rfl trivial
  case sphl => exact .stack rfl rfl (.refl _ _)
  case undoc08 | undoc10 | undoc18 | undoc20 | undoc28 | undoc30 | undoc38 | undocCB =>
    exact State.effect_undocumented rfl fun _ => .computes rfl (.refl _ _) fun _ => rfl
  case undocD9 => exact State.effect_undocumented rfl fun ha => State.effect_returnTo (beq_iff_eq.mpr ha)
  case undocDD | undocED | undocFD =>
    refine State.effect_undocumented rfl fun ha => State.effect_callTo ?_ _ _
    exact beq_iff_eq.mpr ha
  case movRR dst _ | movRM dst | mviR dst _ | inrR dst | dcrR dst =>
    cases dst <;> exact .computes rfl rfl fun _ => rfl
  case lxi p _ | inx p | dcx p =>
    cases p
    case sp => exact .stack rfl rfl (.refl _ _)
    all_goals exact .computes rfl (.refl _ _) fun _ => rfl
  case addR | addM | adi | adcR | adcM | aci | subR | subM | sui | sbbR | sbbM | sbi | anaR | anaM | ani | xraR | xraM
      | xri | oraR | oraM | ori | cmpR | cmpM | cpi | daa =>
    exact .computes rfl trivial fun _ => rfl
  all_goals exact .computes rfl rfl fun _ => rfl

/-- The flags after an instruction are as R27's table allows. -/
theorem exec_flagsMay {i : Instr} {s t : State} (h : exec i s = .next t) :
    FlagsMay (flagWrite i) s.flags t.flags := by
  cases exec_effect h with
  | computes _ flags _ => exact flags
  | ei | di | hlt | unimplemented => exact .refl _ _
  | outp port => obtain ⟨_, e⟩ | ⟨_, e⟩ | ⟨_, _, e⟩ := s.portOut_cases port <;> rw [e] <;> exact .refl _ _

/-- AND clears CY and sets AC (R116 to R118). -/
theorem exec_and_flags {i : Instr} {r : Reg} {v : Byte} {s t : State} (hi : i ∈ [.anaR r, .anaM, .ani v])
    (h : exec i s = .next t) : t.flags.cy = false ∧ t.flags.ac = true := by
  simp only [List.mem_cons, List.not_mem_nil, or_false] at hi
  rcases hi with rfl | rfl | rfl <;> obtain rfl := Host.Outcome.next.inj h <;> exact ⟨rfl, rfl⟩

/-- XOR and OR clear CY and AC (R119 to R124). -/
theorem exec_xorOr_flags {i : Instr} {r : Reg} {v : Byte} {s t : State}
    (hi : i ∈ [.xraR r, .xraM, .xri v, .oraR r, .oraM, .ori v])
    (h : exec i s = .next t) : t.flags.cy = false ∧ t.flags.ac = false := by
  simp only [List.mem_cons, List.not_mem_nil, or_false] at hi
  rcases hi with rfl | rfl | rfl | rfl | rfl | rfl <;> obtain rfl := Host.Outcome.next.inj h <;> exact ⟨rfl, rfl⟩

end Sys2Proof.Machine
end

section
/-! SUPPORT. The error log: what an instruction appends to it, and that no instruction reads it (R36, R165). -/

namespace Sys2Proof.Machine

open Claims

/-- The state with another error log. -/
def State.withLog (s : State) (log : List ErrRecord) : State := { s with errLog := log }

theorem State.jumpIf_withLog (s : State) (log : List ErrRecord) (cc : Cond) (x : Word) :
    (s.withLog log).jumpIf cc x = (s.jumpIf cc x).withLog log := by
  unfold State.jumpIf
  rw [apply_ite (State.withLog · log)]
  rfl

theorem State.callIf_withLog (s : State) (log : List ErrRecord) (cc : Cond) (x : Word) :
    (s.withLog log).callIf cc x = (s.callIf cc x).withLog log := by
  unfold State.callIf
  rw [apply_ite (State.withLog · log)]
  rfl

theorem State.returnIf_withLog (s : State) (log : List ErrRecord) (cc : Cond) :
    (s.withLog log).returnIf cc = (s.returnIf cc).withLog log := by
  unfold State.returnIf
  rw [apply_ite (State.withLog · log)]
  rfl

theorem State.portIn_withLog (s : State) (log : List ErrRecord) (port : Byte) :
    (s.withLog log).portIn port = (s.portIn port).withLog log := by
  unfold State.portIn
  split <;> rfl

theorem State.portOut_withLog (s : State) (log : List ErrRecord) (port : Byte) :
    (s.withLog log).portOut port = (s.portOut port).withLog log := by
  unfold State.portOut
  split <;> rfl

/-- The records an instruction appends: that of an undocumented code under the default of `P_UNDOC` (R165). -/
def State.records (s : State) (i : Instr) : List ErrRecord :=
  match s.cfg.undoc, undocumentedInstrs.lookup i with
  | .unimplemented, some op => [⟨op, s.pc⟩]
  | _, _ => []

theorem State.records_of_documented (s : State) {i : Instr} (h : undocumentedInstrs.lookup i = none) :
    s.records i = [] := by
  unfold State.records
  rw [h]
  cases s.cfg.undoc <;> rfl

theorem State.undocumented_of_unimplemented {s : State} (h : s.cfg.undoc = .unimplemented) (op : Byte)
    (intel : State) : s.undocumented op intel = s.unimplemented op := by
  simp [State.undocumented, h]

theorem State.undocumented_withLog {s intel intel' : State} {i : Instr} {op : Byte} (log : List ErrRecord)
    (hop : undocumentedInstrs.lookup i = some op) (h : intel' = intel.withLog log) :
    (s.withLog log).undocumented op intel' = (s.undocumented op intel).withLog (log ++ s.records i) := by
  obtain ⟨hu, e⟩ | ⟨hu, e⟩ := s.undocumented_cases op intel <;> rw [e, State.records, hop, hu]
  · exact State.undocumented_of_unimplemented (s := s.withLog log) hu op intel'
  · rw [List.append_nil, ← h]
    exact State.undocumented_of_aliased (s := s.withLog log) hu op intel'

/-- An instruction does the same whatever the error log, and appends the same records to it. -/
theorem exec_withLog {i : Instr} {s t : State} (h : exec i s = .next t) (log : List ErrRecord) :
    exec i (s.withLog log) = .next (t.withLog (log ++ s.records i)) := by
  cases i
  case push p | pop p =>
    cases p
    case sp => exact absurd h (by simp [exec, execPush, execPop])
    all_goals
      obtain rfl := Host.Outcome.next.inj h
      rw [s.records_of_documented rfl, List.append_nil]
      rfl
  all_goals obtain rfl := Host.Outcome.next.inj h
  case undoc08 | undoc10 | undoc18 | undoc20 | undoc28 | undoc30 | undoc38 | undocCB | undocD9 | undocDD | undocED
      | undocFD =>
    refine congrArg Host.Outcome.next (State.undocumented_withLog log ?_ ?_) <;> rfl
  all_goals rw [s.records_of_documented rfl, List.append_nil]
  case jnz x | jz x | jnc x | jc x | jpo x | jpe x | jp x | jm x => exact congrArg _ (s.jumpIf_withLog log _ x)
  case cnz x | cz x | cnc x | cc x | cpo x | cpe x | cp x | cm x => exact congrArg _ (s.callIf_withLog log _ x)
  case rnz | rz | rnc | rc | rpo | rpe | rp | rm => exact congrArg _ (s.returnIf_withLog log _)
  case inp port => exact congrArg _ (congrArg (State.advance · 2) (s.portIn_withLog log port))
  case outp port => exact congrArg _ (congrArg (State.advance · 2) (s.portOut_withLog log port))
  case movRR dst _ | movRM dst | mviR dst _ | inrR dst | dcrR dst => cases dst <;> rfl
  case lxi p _ | inx p | dcx p => cases p <;> rfl
  all_goals rfl

/-- The log after an instruction: the old one and the instruction's records (R36). -/
theorem exec_errLog {i : Instr} {s t : State} (h : exec i s = .next t) : t.errLog = s.errLog ++ s.records i :=
  congrArg State.errLog (Host.Outcome.next.inj (h.symm.trans (exec_withLog h s.errLog)))

/-- The undocumented codes have one byte (R67, R73). -/
theorem length_of_undocumented {i : Instr} {op : Byte} (h : undocumentedInstrs.lookup i = some op) : i.length = 1 := by
  have all : ∀ x ∈ undocumentedInstrs, x.1.length = 1 := by decide
  obtain ⟨l₁, l₂, hl, -⟩ := List.lookup_eq_some_iff.mp h
  exact all (i, op) (by simp [hl])

theorem lookup_decodeBytes_opcode (op : Byte) :
    undocumentedInstrs.lookup (decodeBytes op 0 0) = if op ∈ undocumentedOps then some op else none := by
  revert op; decide

/-- The decoder gives the term of an undocumented code exactly for its opcode byte, whatever bytes follow (R73). -/
theorem lookup_decodeBytes (op b c : Byte) :
    undocumentedInstrs.lookup (decodeBytes op b c) = if op ∈ undocumentedOps then some op else none := by
  rw [← lookup_decodeBytes_opcode]
  by_cases h : opcodeLength op = 1
  · rw [decodeBytes_of_length_one h]
  · have none_of {b c : Byte} : undocumentedInstrs.lookup (decodeBytes op b c) = none :=
      Option.eq_none_iff_forall_ne_some.mpr fun _ hl =>
        h ((length_decodeBytes op b c).symm.trans (length_of_undocumented hl))
    rw [none_of, none_of]

/-- The records of the instruction at `PC` (R165). -/
theorem State.records_fetch (s : State) :
    s.records s.fetch =
      if s.cfg.undoc = .unimplemented ∧ s.read s.pc ∈ undocumentedOps then [⟨s.read s.pc, s.pc⟩] else [] := by
  unfold State.records State.fetch
  rw [lookup_decodeBytes]
  by_cases hop : s.read s.pc ∈ undocumentedOps <;> cases s.cfg.undoc <;> simp [hop]

/-- A halted core answers its own state (R61). -/
theorem step_of_halted {s : State} (h : s.halt = true) : step s = .next s := by
  simp [step, cycle, h]

end Sys2Proof.Machine
end

section
/-! SUPPORT. What a firmware load installs (R177). -/

namespace Sys2Proof.Machine

/-- An address of the protected region that the list writes, always with the same byte, holds that byte after the
installer. -/
theorem Memory.lookup_install {m : Memory} (h : m.wf) {ws : List (Nat × Byte)} {k : Nat} {v : Byte} (hk : k < 0x2000)
    (hw : (k, v) ∈ ws ∨ m.lookup k = v) (hu : ∀ u, (k, u) ∈ ws → u = v) : (m.install ws).lookup k = v := by
  induction ws generalizing m with
  | nil => exact hw.resolve_left List.not_mem_nil
  | cons w ws ih =>
    have hu' : ∀ u, (k, u) ∈ ws → u = v := fun u hm => hu u (List.mem_cons_of_mem _ hm)
    obtain ⟨j, u⟩ := w
    change ((if j < 0x2000 then m.store j u else m).install ws).lookup k = v
    by_cases hj : j = k
    · subst hj
      obtain rfl := hu u List.mem_cons_self
      rw [if_pos hk]
      exact ih (Memory.wf_store h (by omega) _) (.inr (by rw [Memory.lookup_store h, if_pos rfl])) hu'
    · have hw' : (k, v) ∈ ws ∨ m.lookup k = v := hw.imp_left fun hm => by simpa [Ne.symm hj] using hm
      split
      · refine ih (Memory.wf_store h (by omega) _) ?_ hu'
        rwa [Memory.lookup_store h, if_neg (Ne.symm hj)]
      · exact ih h hw' hu'

theorem imageAccepted_iff (image : FirmwareImage) :
    imageAccepted image = true ↔ image.length = 4 ∧ ∀ seg ∈ image, seg.length = 0x800 := by
  simp [imageAccepted]

/-- The byte an image has for the address numbered `k`, when its segments are 2 KiB long (R177, R182). -/
def imageByte (image : FirmwareImage) (k : Nat) : Option Byte :=
  (image[k / 0x800]?).bind fun seg => seg[k % 0x800]?

/-- Segment `j` of the four starts at `0x800 * j`. -/
theorem segmentOffsets_getElem? (j : Nat) : segmentOffsets[j]? = if j < 4 then some (0x800 * j) else none := by
  match j with
  | 0 | 1 | 2 | 3 => rfl
  | j + 4 => simp [segmentOffsets]

/-- The writes of an accepted image are its bytes, each at its own address. -/
theorem mem_attemptedWrites {image : FirmwareImage} (h : imageAccepted image = true) (k : Nat) (v : Byte) :
    (k, v) ∈ attemptedWrites image ↔ imageByte image k = some v := by
  obtain ⟨hlen, hseg⟩ := (imageAccepted_iff image).mp h
  simp only [attemptedWrites, imageByte, List.mem_flatMap, List.mem_map, Option.bind_eq_some_iff]
  constructor
  · rintro ⟨⟨o, seg⟩, hz, ⟨u, i⟩, hi, he⟩
    obtain ⟨rfl, rfl⟩ := Prod.mk.inj he
    obtain ⟨j, hj⟩ := List.mem_iff_getElem?.mp hz
    obtain ⟨ho, hs⟩ := List.getElem?_zip_eq_some.mp hj
    rw [List.mk_mem_zipIdx_iff_getElem?] at hi
    have hi' : i < 0x800 := hseg seg (List.mem_of_getElem? hs) ▸ (List.getElem?_eq_some_iff.mp hi).1
    rw [segmentOffsets_getElem?, if_pos (hlen ▸ (List.getElem?_eq_some_iff.mp hs).1)] at ho
    obtain rfl := Option.some.inj ho
    refine ⟨seg, ?_, ?_⟩
    · rwa [show (0x800 * j + i) / 0x800 = j by omega]
    · rwa [show (0x800 * j + i) % 0x800 = i by omega]
  · rintro ⟨seg, hs, hv⟩
    have hj : k / 0x800 < 4 := hlen ▸ (List.getElem?_eq_some_iff.mp hs).1
    refine ⟨(0x800 * (k / 0x800), seg), List.mem_iff_getElem?.mpr ⟨k / 0x800, ?_⟩, (v, k % 0x800), ?_, ?_⟩
    · rw [List.getElem?_zip_eq_some, segmentOffsets_getElem?, if_pos hj]
      exact ⟨rfl, hs⟩
    · rwa [List.mk_mem_zipIdx_iff_getElem?]
    · simp only [Nat.div_add_mod]

/-- An accepted image has a byte for every address of the protected region (R177). -/
theorem exists_imageByte {image : FirmwareImage} (h : imageAccepted image = true) {k : Nat} (hk : k < 0x2000) :
    ∃ v, imageByte image k = some v := by
  obtain ⟨hlen, hseg⟩ := (imageAccepted_iff image).mp h
  have hj : k / 0x800 < image.length := by omega
  have hi : k % 0x800 < image[k / 0x800].length := by
    rw [hseg _ (List.getElem_mem hj)]
    omega
  exact ⟨image[k / 0x800][k % 0x800], by simp [imageByte, hj, hi]⟩

/-- An accepted image is installed whole (R177). -/
theorem Memory.lookup_install_accepted {m : Memory} (hm : m.wf) {image : FirmwareImage}
    (h : imageAccepted image = true) {k : Nat} (hk : k < 0x2000) :
    some ((m.install (attemptedWrites image)).lookup k) = imageByte image k := by
  obtain ⟨v, hv⟩ := exists_imageByte h hk
  rw [hv, Memory.lookup_install hm hk (.inl ((mem_attemptedWrites h k v).mpr hv))]
  intro u hu
  rw [mem_attemptedWrites h, hv] at hu
  exact (Option.some.inj hu).symm

theorem State.loadFirmware_of_accepted (s : State) {image : FirmwareImage} (h : imageAccepted image = true) :
    s.loadFirmware image = ⟨{ s with mem := s.mem.install (attemptedWrites image) }, .done⟩ :=
  if_pos h

theorem State.loadFirmware_of_rejected (s : State) {image : FirmwareImage} (h : imageAccepted image = false) :
    s.loadFirmware image =
      ⟨{ s with mem := s.mem.install ((attemptedWrites image).take (Config.firmwarePrefix s.draws)),
                draws := s.draws + 1 }, .refused .firmwareRejected⟩ :=
  if_neg (Bool.eq_false_iff.mp h)

/-- A load changes memory, by the installer, and the draw counter (R177). -/
theorem State.loadFirmware_state (s : State) (image : FirmwareImage) :
    ∃ ws n, (s.loadFirmware image).state = { s with mem := s.mem.install ws, draws := n } := by
  cases h : imageAccepted image with
  | true => exact ⟨_, s.draws, by rw [s.loadFirmware_of_accepted h]⟩
  | false => exact ⟨_, _, by rw [s.loadFirmware_of_rejected h]⟩

end Sys2Proof.Machine
end

section
/-! SUPPORT. The status word (R29, R30). -/

namespace Sys2Proof.Machine

/-- The packed image as a number (R29). -/
theorem Flags.pack_toNat (f : Flags) :
    f.pack.toNat = 128 * f.s.toNat + 64 * f.z.toNat + 16 * f.ac.toNat + 4 * f.p.toNat + 2 + f.cy.toNat := by
  obtain ⟨s, z, ac, p, cy⟩ := f
  revert s z ac p cy
  decide

/-- Unpacking gives the packed flags back (R30). -/
theorem Flags.unpack_pack (f : Flags) : Flags.unpack f.pack = f := by
  obtain ⟨s, z, ac, p, cy⟩ := f
  revert s z ac p cy
  decide

/-- Packing what was unpacked keeps the five flag bits, clears bits 5 and 3 and sets bit 1 (R29, R30). -/
theorem Flags.pack_unpack (w : Byte) : (Flags.unpack w).pack = (w &&& 0xD5) ||| 0x02 := by
  revert w
  decide

end Sys2Proof.Machine
end

section
namespace Sys2Proof.Proofs

open Machine Claims

/-- Settles O50: the table's clauses from `exec_flagsMay`, the logical operations from their results. -/
theorem flagWriters : Obligations.FlagWriters := by
  intro i s t h
  have may := exec_flagsMay h
  refine ⟨fun hw => ?_, fun hw => ?_, fun hw => ?_, fun ⟨r, v, hi⟩ => exec_and_flags hi h,
    fun ⟨r, v, hi⟩ => exec_xorOr_flags hi h⟩ <;> rw [hw] at may <;> exact may

/-- Settles O51: only the effects EI, DI, HLT and OUT touch a latch, and each touches its own. -/
theorem latchWriters : Obligations.LatchWriters := by
  intro i s t h
  cases exec_effect h with
  | computes keeps => rw [keeps]; simp
  | ei | di | hlt | unimplemented => simp
  | outp port => obtain ⟨rfl, e⟩ | ⟨rfl, e⟩ | ⟨_, _, e⟩ := s.portOut_cases port <;> rw [e] <;> simp

/-- Settles O52: a computation that is no writer of `SP` keeps it, and no latch instruction touches it. -/
theorem stackPointerWriters : Obligations.StackPointerWriters := by
  intro i s t hi h
  cases exec_effect h with
  | computes _ _ sp => exact sp hi
  | ei | di | hlt | unimplemented => rfl
  | outp port => obtain ⟨_, e⟩ | ⟨_, e⟩ | ⟨_, _, e⟩ := s.portOut_cases port <;> rw [e] <;> rfl

/-- Settles O53: a halted core appends nothing, the others the records of what they fetch. -/
theorem errorLogGrowth : Obligations.ErrorLogGrowth := by
  intro s t h
  by_cases hh : s.halt = true
  · obtain rfl := Host.Outcome.next.inj ((step_of_halted hh).symm.trans h)
    simp [hh]
  · rw [Bool.not_eq_true] at hh
    rw [step_of_not_halted hh] at h
    rw [exec_errLog h, State.records_fetch]
    simp only [hh, true_and]

/-- Settles O54: what runs does not depend on the log, and runs the same by `exec_withLog`. -/
theorem errorLogIsNotRead : Obligations.ErrorLogIsNotRead := by
  intro s t log h
  by_cases hh : s.halt = true
  · obtain rfl := Host.Outcome.next.inj ((step_of_halted hh).symm.trans h)
    exact ⟨[], by simp, by rw [List.append_nil]; exact step_of_halted hh⟩
  · rw [Bool.not_eq_true] at hh
    rw [step_of_not_halted hh] at h
    exact ⟨s.records s.fetch, exec_errLog h,
      (step_of_not_halted (s := s.withLog log) hh).trans (exec_withLog h log)⟩

/-- Settles O59: reset is a firmware load over the values of construction. -/
theorem hostReset : Obligations.HostReset := by
  intro s image
  obtain ⟨ws, n, hload⟩ :=
    State.loadFirmware_state { State.reset with errLog := s.errLog, cfg := s.cfg, draws := s.draws } image
  change (s.hostReset image).state = _ at hload
  refine ⟨by rw [hload]; rfl, by rw [hload], by rw [hload], fun x hx => ?_, fun h => ?_, fun h => ?_⟩
  · rw [hload]
    exact Memory.lookup_install_above State.reset_mem_wf ws hx
  · rw [State.hostReset, State.loadFirmware_of_accepted _ h]
    exact ⟨rfl, fun x hx => Memory.lookup_install_accepted State.reset_mem_wf h hx⟩
  · rw [State.hostReset, State.loadFirmware_of_rejected _ h]
    exact ⟨rfl, _, rfl⟩

/-- Settles O3: the decoder and the field codes run on the words. -/
theorem exampleWordsDecode : Obligations.ExampleWordsDecode := by
  unfold Obligations.ExampleWordsDecode
  decide

/-- Settles O9: an empty list of cells is canonical, and every address of it is unlisted. -/
theorem resetIsCanonical : Obligations.ResetIsCanonical := ⟨State.reset_mem_wf, fun _ => rfl⟩

/-- Settles O57: the values `State.reset` writes out. -/
theorem constructionValues : Obligations.ConstructionValues :=
  ⟨fun r => by cases r <;> rfl, rfl, rfl, rfl, by decide, rfl, rfl, rfl, rfl, rfl, rfl, fun _ => rfl, rfl⟩

/-- Settles O43: unpacking takes the bits by definition; the other clauses are the lemmas on packing. -/
theorem statusWord : Obligations.StatusWord :=
  ⟨Flags.pack_toNat, fun _ => rfl, Flags.unpack_pack, Flags.pack_unpack⟩

end Sys2Proof.Proofs
end

-- Proofs of the statements of spec family 20_memory, with the facts on reads, canonical lists, runs and schedules they
-- rest on
section
/-! SUPPORT. Reads after privileged stores, protected writes, views and regions (R43 to R50). -/

namespace Sys2Proof.Machine

/-- A read after a store that no protection stops (R44). -/
theorem Memory.read_store {m : Memory} (h : m.wf) (x y : Word) (v : Byte) :
    (m.store x.toNat v).read y = if y = x then v else m.read y := by
  simp only [Memory.read, Memory.lookup_store h, BitVec.toNat_inj]

theorem State.write_of_protected (s : State) {x : Word} (h : x.toNat < 0x2000) (v : Byte) : s.write x v = s := by
  rw [State.write, Memory.write_protected h]

theorem State.read16_eq (s : State) (x : Word) :
    s.read16 x = ((s.read (x + 1)).setWidth 16 <<< 8) ||| (s.read x).setWidth 16 :=
  joinBytes_eq ..

theorem State.privWrite_of_protected (s : State) {x : Word} (h : x.toNat < 0x2000) (v : Byte) :
    s.privWrite x v = ⟨{ s with mem := s.mem.store x.toNat v }, .done⟩ := by
  rw [State.privWrite, isProtected, if_pos (decide_eq_true h)]

theorem State.privWrite_of_unprotected (s : State) {x : Word} (h : 0x2000 ≤ x.toNat) (v : Byte) :
    s.privWrite x v = ⟨s, .refused (.callerError x)⟩ := by
  rw [State.privWrite, isProtected, if_neg (by simpa using h)]

/-- An address is in a region exactly when it is in that row's range (R45). -/
theorem regionOf_eq_iff {row : RegionRow} (h : row ∈ regionTable) (x : Word) :
    regionOf x = row.region ↔ row.lo ≤ x.toNat ∧ x.toNat < row.hi := by
  have hx := x.isLt
  unfold regionOf
  simp only [regionTable, List.mem_cons, List.not_mem_nil, or_false] at h
  rcases h with rfl | rfl | rfl | rfl <;> split_ifs <;> simp <;> omega

/-- Exactly the ROM region is protected (R43, R45). -/
theorem isProtected_iff (x : Word) : isProtected x = true ↔ regionOf x = .rom := by
  have rom : (⟨.rom, 0x0000, 0x2000⟩ : RegionRow) ∈ regionTable := List.mem_cons_self
  simpa [isProtected] using (regionOf_eq_iff rom x).symm

theorem Memory.length_view (m : Memory) (x n : Nat) : (m.view x n).length = n := by
  simp [Memory.view]

theorem Memory.getElem?_view (m : Memory) (x : Nat) {k n : Nat} (h : k < n) :
    (m.view x n)[k]? = some (m.lookup (x + k)) := by
  simp [Memory.view, h]

end Sys2Proof.Machine
end

section
/-! SUPPORT. A canonical list lists exactly the addresses that do not read as unlisted, so its reads determine it. -/

namespace Sys2Proof.Machine

/-- A cell of a canonical list is what its address reads as. -/
theorem Memory.lookup_of_mem {m : Memory} (h : m.wf) {y : Host.Cell} (hy : y ∈ m) : m.lookup y.1 = y.2 := by
  induction m with
  | nil => exact absurd hy List.not_mem_nil
  | cons x m ih =>
    rcases List.mem_cons.mp hy with rfl | hy
    · exact if_pos rfl
    · rw [Memory.lookup, if_neg (Nat.ne_of_lt (Memory.wf_head_lt h y hy)), ih (Memory.wf_tail h) hy]

/-- What an address reads as, if not as unlisted, stands in a cell. -/
theorem Memory.mem_of_lookup {m : Memory} {k : Nat} (h : m.lookup k ≠ Memory.unlisted) : (k, m.lookup k) ∈ m := by
  induction m with
  | nil => exact absurd rfl h
  | cons x m ih =>
    rw [Memory.lookup] at h ⊢
    by_cases hk : x.1 = k
    · subst hk
      rw [if_pos rfl]
      exact List.mem_cons_self
    · rw [if_neg hk] at h ⊢
      exact List.mem_cons_of_mem _ (ih h)

/-- The cells of a canonical list stand in every list that reads alike. -/
theorem Memory.subset_of_read_eq {m m' : Memory} (h : m.wf) (hr : ∀ x, m.read x = m'.read x) : m ⊆ m' := by
  intro y hy
  obtain ⟨hlt, hne⟩ := h.2 y hy
  have hk : m.lookup y.1 = m'.lookup y.1 := by
    simpa [Memory.read, Nat.mod_eq_of_lt hlt] using hr (BitVec.ofNat 16 y.1)
  have hv : m'.lookup y.1 = y.2 := hk.symm.trans (Memory.lookup_of_mem h hy)
  have hm := Memory.mem_of_lookup (m := m') (k := y.1) (hv.trans_ne hne)
  rwa [hv] at hm

/-- Canonical lists that read alike have the same cells in the same order. -/
theorem Memory.eq_of_read_eq {m m' : Memory} (h : m.wf) (h' : m'.wf) (hr : ∀ x, m.read x = m'.read x) : m = m' := by
  have : Std.Irrefl fun x y : Host.Cell => x.1 < y.1 := ⟨fun x => Nat.lt_irrefl x.1⟩
  have : Std.Antisymm fun x y : Host.Cell => x.1 < y.1 := ⟨fun _ _ hlt hgt => absurd hgt (Nat.lt_asymm hlt)⟩
  exact List.Subset.antisymm_of_pairwise h.1 h'.1 (Memory.subset_of_read_eq h hr)
    (Memory.subset_of_read_eq h' fun x => (hr x).symm)

end Sys2Proof.Machine
end

section
/-! SUPPORT. What runs, requests and schedules keep of memory (R172, R174). -/

namespace Sys2Proof.Machine

/-- `t` has canonical memory with the protected region of `s` in it. -/
structure State.KeepsRom (s t : State) : Prop where
  inv : t.Inv
  read_eq : ∀ x : Word, x.toNat < 0x2000 → t.read x = s.read x

theorem State.KeepsRom.refl {s : State} (h : s.Inv) : s.KeepsRom s := ⟨h, fun _ _ => rfl⟩

theorem State.KeepsRom.trans {s t u : State} (h : s.KeepsRom t) (h' : t.KeepsRom u) : s.KeepsRom u :=
  ⟨h'.inv, fun x hx => (h'.read_eq x hx).trans (h.read_eq x hx)⟩

theorem State.WritesOnce.keepsRom {s t : State} (h : s.WritesOnce t) (hs : s.Inv) : s.KeepsRom t :=
  ⟨h.wf hs, fun _ hx => h.read_protected hs hx⟩

/-- A step writes memory at most once, by the ordinary paths (R43, R60). -/
theorem step_writesOnce {s t : State} (h : step s = .next t) : s.WritesOnce t := by
  cases hh : s.halt with
  | true =>
    obtain rfl := Host.Outcome.next.inj ((step_of_halted hh).symm.trans h)
    exact .inl rfl
  | false => exact exec_writesOnce ((step_of_not_halted hh).symm.trans h)

/-- What every step keeps, every run of steps keeps (R175). -/
theorem executeN_invariant {P : State → Prop} (hstep : ∀ s t, P s → step s = .next t → P t) {n : Nat} {s t : State}
    (hs : P s) (h : executeN n s = .next t) : P t := by
  induction n generalizing s with
  | zero => exact Host.Outcome.next.inj h ▸ hs
  | succ n ih =>
    rw [executeN] at h
    cases hst : step s with
    | next u =>
      rw [hst] at h
      exact ih (hstep s u hs hst) h
    | fault f => exact nomatch f
    | refused r =>
      rw [hst] at h
      exact nomatch h

/-- The reply to a run is in the state asked in or in the next state the run answers. -/
theorem replyOf_state {P : State → Prop} {s : State} {o : Host.Outcome State Fault Refusal} (hs : P s)
    (ho : ∀ t, o = .next t → P t) : P (replyOf s o).state := by
  cases o with
  | next t => exact ho t rfl
  | fault f => exact nomatch f
  | refused r => exact hs

/-- What every call of a schedule keeps, the schedule keeps (R179). -/
theorem State.afterCalls_invariant {P : State → Prop} {calls : List HostCall}
    (hcall : ∀ s, ∀ call ∈ calls, P s → P (s.hostCall call).state) {s : State} (hs : P s) :
    P (s.afterCalls calls) := by
  induction calls generalizing s with
  | nil => exact hs
  | cons call calls ih =>
    exact ih (fun s c hc => hcall s c (List.mem_cons_of_mem _ hc)) (hcall s call List.mem_cons_self hs)

theorem executeN_keepsRom {n : Nat} {s t : State} (hs : s.Inv) (h : executeN n s = .next t) : s.KeepsRom t :=
  executeN_invariant (fun _ _ hu hst => hu.trans ((step_writesOnce hst).keepsRom hu.inv)) (.refl hs) h

/-- Accepting an interrupt leaves the protected region as `push16(PC)` does (R167). -/
theorem State.acceptInterrupt_keepsRom {s : State} (hs : s.Inv) (n : BitVec 3) : s.KeepsRom (s.acceptInterrupt n) := by
  obtain ⟨m, hacc, hm, hread⟩ := s.acceptInterrupt_eq hs n
  have hpush : s.KeepsRom (s.push16 s.pc) := State.WritesOnce.keepsRom (.inr (.inr ⟨_, _, rfl⟩)) hs
  rw [hacc]
  exact ⟨hm, fun x hx => (hread x).trans (hpush.read_eq x hx)⟩

theorem State.hostInterrupt_keepsRom {s : State} (hs : s.Inv) (n : Nat) : s.KeepsRom (s.hostInterrupt n).state := by
  by_cases hn : n < 8
  · rw [s.hostInterrupt_of_lt hn]
    obtain ⟨_, h⟩ | ⟨_, h⟩ := s.requestInterrupt_cases (BitVec.ofNat 3 n) <;> rw [h]
    · exact .refl hs
    · exact State.acceptInterrupt_keepsRom hs _
  · rw [s.hostInterrupt_of_le (Nat.le_of_not_lt hn)]
    exact .refl hs

/-- A call by which the program runs keeps the protected region (R43, R172). -/
theorem State.hostCall_keepsRom {s : State} {call : HostCall} (hs : s.Inv) (hc : call.ofProgram = true) :
    s.KeepsRom (s.hostCall call).state := by
  cases call with
  | step => exact replyOf_state (.refl hs) fun _ h => (step_writesOnce h).keepsRom hs
  | executeN n => exact replyOf_state (.refl hs) fun _ h => executeN_keepsRom hs h
  | requestInterrupt n => exact State.hostInterrupt_keepsRom hs n
  | setInput | privilegedWrite | loadFirmware | videoView | snapshot | reset => exact nomatch hc

theorem State.privWrite_inv {s : State} (hs : s.Inv) (x : Word) (v : Byte) : (s.privWrite x v).state.Inv := by
  by_cases hx : x.toNat < 0x2000
  · rw [s.privWrite_of_protected hx]
    exact Memory.wf_store hs x.isLt v
  · rwa [s.privWrite_of_unprotected (Nat.le_of_not_lt hx)]

theorem State.loadFirmware_inv {s : State} (hs : s.Inv) (image : FirmwareImage) : (s.loadFirmware image).state.Inv := by
  obtain ⟨ws, n, h⟩ := s.loadFirmware_state image
  rw [h]
  exact Memory.wf_install hs ws

/-- A load writes nothing outside the protected region (R44, R177). -/
theorem State.read_loadFirmware_above {s : State} (hs : s.Inv) (image : FirmwareImage) {x : Word}
    (hx : 0x2000 ≤ x.toNat) : (s.loadFirmware image).state.read x = s.read x := by
  obtain ⟨ws, n, h⟩ := s.loadFirmware_state image
  rw [h]
  exact Memory.lookup_install_above hs ws hx

/-- Every host call keeps the memory in canonical form (R174). -/
theorem State.hostCall_inv {s : State} (hs : s.Inv) (call : HostCall) : (s.hostCall call).state.Inv := by
  cases call with
  | step | executeN | requestInterrupt => exact (State.hostCall_keepsRom hs rfl).inv
  | setInput latch k v => cases latch <;> exact hs
  | privilegedWrite x v => exact State.privWrite_inv hs x v
  | loadFirmware image => exact State.loadFirmware_inv hs image
  | videoView | snapshot => exact hs
  | reset image =>
    refine State.loadFirmware_inv ?_ image
    exact State.reset_mem_wf

end Sys2Proof.Machine
end

section
namespace Sys2Proof.Proofs

open Machine

/-- Settles O15: a step writes at most once, by the ordinary paths. -/
theorem stepKeepsCanonicalMemory : Obligations.StepKeepsCanonicalMemory :=
  fun _ _ hs h => (step_writesOnce h).wf hs

/-- Settles O16: the invariant of one call, along the schedule. -/
theorem schedulesKeepCanonicalMemory : Obligations.SchedulesKeepCanonicalMemory :=
  fun _ _ hs => State.afterCalls_invariant (P := State.Inv) (fun _ call _ hu => State.hostCall_inv hu call) hs

/-- Settles O18: the program's calls keep the protected region of the first state, along the schedule. -/
theorem programCannotModifyRom : Obligations.ProgramCannotModifyRom := by
  intro s calls hs hprog
  have hkeeps : s.KeepsRom (s.afterCalls calls) :=
    State.afterCalls_invariant
      (fun _ call hc hu => hu.trans (State.hostCall_keepsRom hu.inv (List.all_eq_true.mp hprog call hc))) (.refl hs)
  exact hkeeps.read_eq

/-- Settles O11: the read after a write, and the write that is dropped. -/
theorem ordinaryWrite : Obligations.OrdinaryWrite :=
  fun s x v hs => ⟨fun y => s.read_write hs x y v, rfl, fun hx => s.write_of_protected hx v⟩

/-- Settles O12: the two cases of the privileged write; the regions by their table. -/
theorem privilegedWriteAndRegions : Obligations.PrivilegedWriteAndRegions := by
  refine ⟨fun s x v hs => ⟨fun hx => ?_, fun hx => s.privWrite_of_unprotected hx v⟩,
    fun x _ hrow => regionOf_eq_iff hrow x, rfl, rfl, isProtected_iff⟩
  rw [s.privWrite_of_protected hx]
  exact ⟨rfl, rfl, fun y => Memory.read_store hs x y v⟩

/-- Settles O13: a 16-bit read joins two bytes, and a 16-bit write stores two. -/
theorem wordAccesses : Obligations.WordAccesses :=
  fun s x v hs => ⟨s.read16_eq x, State.storedWord_write16 hs x v, rfl⟩

/-- Settles O14: each list has the other's cells, and rising addresses leave one order. -/
theorem canonicalMemoriesAgree : Obligations.CanonicalMemoriesAgree :=
  fun _ _ h h' hr => Memory.eq_of_read_eq h h' hr

/-- Settles O58: an accepted image gives every protected byte, a rejected one what its first attempted writes leave. -/
theorem firmwareLoad : Obligations.FirmwareLoad := by
  intro s image hs
  refine ⟨imageAccepted_iff image, fun h => ?_, fun h => ?_⟩
  · refine ⟨?_, ?_, fun x hx => ?_, fun x => State.read_loadFirmware_above hs image⟩ <;>
      rw [s.loadFirmware_of_accepted h]
    exact Memory.lookup_install_accepted hs h hx
  · refine ⟨?_, ?_, fun x => State.read_loadFirmware_above hs image⟩ <;> rw [s.loadFirmware_of_rejected h]
    exact ⟨_, rfl⟩

/-- Settles O17: the view lists the bytes from 0x2400 on. -/
theorem videoView : Obligations.VideoView := by
  refine fun s => ⟨rfl, s.mem.length_view .., fun k hk => ?_⟩
  have haddr : (BitVec.ofNat 16 (0x2400 + k)).toNat = 0x2400 + k := Nat.mod_eq_of_lt (by omega)
  rw [State.read, Memory.read, haddr]
  exact s.mem.getElem?_view 0x2400 hk

end Sys2Proof.Proofs
end

-- Proofs of the statements of spec family 30_encoding, with the facts on decoder and encoder, runs, halted cores and
-- the program counter they rest on
section
/-! SUPPORT. Decoder and encoder are inverse row by row, the operand bytes carried through (R67 to R73). -/

namespace Sys2Proof

open Machine

/-- A register code is the memory operand's or that of the register it names (R22). -/
theorem regOfCode_cases (k : BitVec 3) :
    (k = 6#3 ∧ regOfCode k = none) ∨ ∃ r : Reg, k = r.code ∧ regOfCode k = some r := by
  rcases opcodeField_cases k with rfl | rfl | rfl | rfl | rfl | rfl | rfl | rfl
  case inr.inr.inr.inr.inr.inr.inl => exact .inl ⟨rfl, rfl⟩
  all_goals exact .inr ⟨_, by decide, rfl⟩

theorem withWord_joinBytes (op hi lo : Byte) : withWord op (joinBytes hi lo) = [op, lo, hi] := by
  simp [withWord]

theorem opcode_fields (op : Byte) : opcode (op.extractLsb' 6 2) (op.extractLsb' 3 3) (op.extractLsb' 0 3) = op := by
  revert op; decide

/-- `i` is an instruction of the hardware, encoded by as many of the bytes `op`, `b`, `c` as its length takes. -/
structure Encodes (op b c : Byte) (i : Instr) : Prop where
  wellFormed : i.wellFormed = true
  encode_eq : encode i = [op, b, c].take i.length

theorem encodes_decodeMov (y z : BitVec 3) (b c : Byte) : Encodes (opcode 1#2 y z) b c (decodeMov y z) := by
  unfold decodeMov
  obtain ⟨rfl, hy⟩ | ⟨dst, rfl, hy⟩ := regOfCode_cases y <;> rw [hy] <;>
    obtain ⟨rfl, hz⟩ | ⟨src, rfl, hz⟩ := regOfCode_cases z <;> rw [hz] <;> exact ⟨rfl, rfl⟩

theorem encodes_decodeAlu (y z : BitVec 3) (b c : Byte) : Encodes (opcode 2#2 y z) b c (decodeAlu y z) := by
  unfold decodeAlu
  obtain ⟨rfl, hz⟩ | ⟨src, rfl, hz⟩ := regOfCode_cases z <;> rw [hz] <;>
    rcases opcodeField_cases y with rfl | rfl | rfl | rfl | rfl | rfl | rfl | rfl <;> exact ⟨rfl, rfl⟩

theorem encodes_decodeLow (y z : BitVec 3) (b c : Byte) :
    Encodes (opcode 0#2 y z) b c (decodeLow y z b (joinBytes c b)) := by
  rcases opcodeField_cases z with rfl | rfl | rfl | rfl | rfl | rfl | rfl | rfl
  case inr.inl =>
    -- LXI has a word, DAD has none
    rcases opcodeField_cases y with rfl | rfl | rfl | rfl | rfl | rfl | rfl | rfl
    case inl | inr.inr.inl | inr.inr.inr.inr.inl | inr.inr.inr.inr.inr.inr.inl =>
      exact ⟨rfl, withWord_joinBytes _ c b⟩
    all_goals exact ⟨rfl, rfl⟩
  case inr.inr.inl =>
    -- the loads and stores through a pair have no operand, the direct ones a word
    rcases opcodeField_cases y with rfl | rfl | rfl | rfl | rfl | rfl | rfl | rfl
    case inl | inr.inl | inr.inr.inl | inr.inr.inr.inl => exact ⟨rfl, rfl⟩
    all_goals exact ⟨rfl, withWord_joinBytes _ c b⟩
  all_goals
    rcases opcodeField_cases y with rfl | rfl | rfl | rfl | rfl | rfl | rfl | rfl <;> exact ⟨rfl, rfl⟩

theorem encodes_decodeHigh (y z : BitVec 3) (b c : Byte) :
    Encodes (opcode 3#2 y z) b c (decodeHigh y z b (joinBytes c b)) := by
  rcases opcodeField_cases z with rfl | rfl | rfl | rfl | rfl | rfl | rfl | rfl
  case inr.inr.inl | inr.inr.inr.inr.inl =>
    -- the conditional jumps and calls
    rcases opcodeField_cases y with rfl | rfl | rfl | rfl | rfl | rfl | rfl | rfl <;>
      exact ⟨rfl, withWord_joinBytes _ c b⟩
  case inr.inr.inr.inl =>
    -- JMP and its neighbours
    rcases opcodeField_cases y with rfl | rfl | rfl | rfl | rfl | rfl | rfl | rfl
    case inl => exact ⟨rfl, withWord_joinBytes _ c b⟩
    all_goals exact ⟨rfl, rfl⟩
  case inr.inr.inr.inr.inr.inl =>
    -- CALL and its neighbours
    rcases opcodeField_cases y with rfl | rfl | rfl | rfl | rfl | rfl | rfl | rfl
    case inr.inl => exact ⟨rfl, withWord_joinBytes _ c b⟩
    all_goals exact ⟨rfl, rfl⟩
  all_goals
    rcases opcodeField_cases y with rfl | rfl | rfl | rfl | rfl | rfl | rfl | rfl <;> exact ⟨rfl, rfl⟩

/-- What the decoder makes of three bytes is encoded by the ones its length takes (R67, R72). -/
theorem encodes_decodeBytes (op b c : Byte) : Encodes op b c (decodeBytes op b c) := by
  have blocks (x : BitVec 2) : x = 0#2 ∨ x = 1#2 ∨ x = 2#2 ∨ x = 3#2 := by revert x; decide
  have hop := opcode_fields op
  unfold decodeBytes
  obtain hx | hx | hx | hx := blocks (op.extractLsb' 6 2) <;> rw [hx] at hop ⊢ <;>
    refine (congrArg (Encodes · b c _) hop).mp ?_
  · exact encodes_decodeLow ..
  · exact encodes_decodeMov ..
  · exact encodes_decodeAlu ..
  · exact encodes_decodeHigh ..

theorem wellFormed_decodeBytes (op b c : Byte) : (decodeBytes op b c).wellFormed = true :=
  (encodes_decodeBytes op b c).wellFormed

theorem encode_decodeBytes (op b c : Byte) : encode (decodeBytes op b c) = [op, b, c].take (opcodeLength op) := by
  rw [(encodes_decodeBytes op b c).encode_eq, length_decodeBytes]

/-- What the decoder accepts: three bytes' instruction, where the list begins with the ones its length takes (R67). -/
theorem exists_of_decode_ok {bytes rest : List Byte} {i : Instr} (h : decode bytes = .ok i rest) :
    ∃ op b c, i = decodeBytes op b c ∧ bytes = [op, b, c].take (opcodeLength op) ++ rest := by
  unfold decode at h
  split at h
  · exact nomatch h
  · rename_i op more
    split at h
    case h_4 => exact nomatch h
    all_goals
      rename_i hlen
      obtain ⟨rfl, rfl⟩ := Decoded.ok.inj h
      exact ⟨op, _, _, rfl, by rw [hlen]; rfl⟩

/-- The decoder undoes the encoder, whatever bytes follow (R67, R70). -/
theorem decode_encode {i : Instr} (h : i.wellFormed = true) (rest : List Byte) :
    decode (encode i ++ rest) = .ok i rest := by
  cases i
  case push p | pop p =>
    cases p
    case sp => exact Bool.noConfusion h
    all_goals rfl
  case movRR dst src => cases dst <;> cases src <;> rfl
  case movRM r | movMR r | mviR r _ | inrR r | dcrR r | addR r | adcR r | subR r | sbbR r | anaR r | xraR r | oraR r
      | cmpR r =>
    cases r <;> rfl
  case inx p | dcx p | dad p => cases p <;> rfl
  case lxi p v => cases p <;> exact congrArg (Decoded.ok · rest) (congrArg (Instr.lxi _) (joinBytes_hi_lo v))
  case shld v | lhld v | sta v | lda v | jmp v | jnz v | jz v | jnc v | jc v | jpo v | jpe v | jp v | jm v | call v
      | cnz v | cz v | cnc v | cc v | cpo v | cpe v | cp v | cm v =>
    exact congrArg (Decoded.ok · rest) (congrArg _ (joinBytes_hi_lo v))
  all_goals rfl

/-- The encoder undoes the decoder, which accepts well-formed instructions only (R75). -/
theorem wellFormed_and_encode_of_decode_ok {bytes rest : List Byte} {i : Instr} (h : decode bytes = .ok i rest) :
    i.wellFormed = true ∧ bytes = encode i ++ rest := by
  obtain ⟨op, b, c, rfl, rfl⟩ := exists_of_decode_ok h
  exact ⟨wellFormed_decodeBytes op b c, by rw [encode_decodeBytes]⟩

/-- No two well-formed instructions share an encoding: the decoder would have to give both. -/
theorem encode_injective {i j : Instr} (hi : i.wellFormed = true) (hj : j.wellFormed = true)
    (h : encode i = encode j) : i = j := by
  have hdec : decode (encode i ++ []) = .ok j [] := by rw [h, decode_encode hj]
  exact (Decoded.ok.inj ((decode_encode hi []).symm.trans hdec)).1

open Claims

/-- MOV, HLT and the undocumented codes have one byte (R67). -/
theorem opKind_of_length_ne_one {i : Instr} (h : i.length ≠ 1) : opKind i = .documented := by
  cases i
  case movRR | movRM | movMR | hlt | undoc08 | undoc10 | undoc18 | undoc20 | undoc28 | undoc30 | undoc38 | undocCB
      | undocD9 | undocDD | undocED | undocFD =>
    exact absurd rfl h
  all_goals rfl

/-- The kind depends on the opcode byte alone (R75): an instruction that has operand bytes is of the documented kind. -/
theorem opKind_decodeBytes (op b c : Byte) : opKind (decodeBytes op b c) = opKind (decodeBytes op 0 0) := by
  by_cases h : opcodeLength op = 1
  · rw [decodeBytes_of_length_one h]
  · have kind (b c : Byte) : opKind (decodeBytes op b c) = .documented :=
      opKind_of_length_ne_one (by rwa [length_decodeBytes])
    rw [kind, kind]

/-- How many of the 64 opcode values with top bits `x` are of a kind. -/
def blockCount (k : OpKind) (x : Nat) : Nat :=
  (List.range 64).countP fun n => opKind (decodeBytes (BitVec.ofNat 8 (64 * x + n)) 0 0) == k

/-- The opcode map is its four blocks (R68). -/
theorem countKind_eq_blocks (k : OpKind) :
    countKind k = blockCount k 0 + blockCount k 1 + blockCount k 2 + blockCount k 3 := by
  have range : List.range 256 = List.range (64 + 64 + 64 + 64) := rfl
  simp only [countKind, blockCount, range, List.range_add, List.countP_append, List.countP_map]
  simp [Function.comp_def]

end Sys2Proof
end

section
/-! SUPPORT. Steps and runs always answer a next state; halted and stuck cores; undocumented codes under the default
setting (R60, R61, R164, R165). -/

namespace Sys2Proof.Machine

open Claims

theorem exec_of_wellFormed {i : Instr} (h : i.wellFormed = true) (s : State) : ∃ t, exec i s = .next t := by
  cases i
  case push p | pop p =>
    cases p
    case sp => exact Bool.noConfusion h
    all_goals exact ⟨_, rfl⟩
  all_goals exact ⟨_, rfl⟩

/-- Every step answers a next state: what can be fetched is well-formed (R60, R164). -/
theorem step_answers (s : State) : ∃ t, step s = .next t := by
  cases h : s.halt with
  | true => exact ⟨s, step_of_halted h⟩
  | false =>
    rw [step_of_not_halted h]
    exact exec_of_wellFormed (wellFormed_decodeBytes ..) s

theorem executeN_succ_of_step {s t : State} (h : step s = .next t) (n : Nat) :
    executeN (n + 1) s = executeN n t := by
  rw [executeN, h]

theorem executeN_answers (n : Nat) (s : State) : ∃ t, executeN n s = .next t := by
  induction n generalizing s with
  | zero => exact ⟨s, rfl⟩
  | succ n ih =>
    obtain ⟨t, ht⟩ := step_answers s
    rw [executeN_succ_of_step ht]
    exact ih t

/-- Any number of steps of a halted core is idle (R61). -/
theorem executeN_of_halted {s : State} (h : s.halt = true) (n : Nat) : executeN n s = .next s := by
  induction n with
  | zero => rfl
  | succ n ih => rw [executeN_succ_of_step (step_of_halted h), ih]

theorem State.loadFirmware_halt (s : State) (image : FirmwareImage) : (s.loadFirmware image).state.halt = s.halt := by
  obtain ⟨ws, n, h⟩ := s.loadFirmware_state image
  rw [h]

theorem State.privWrite_halt (s : State) (x : Word) (v : Byte) : (s.privWrite x v).state.halt = s.halt := by
  unfold State.privWrite
  split <;> rfl

theorem State.setInput_halt (s : State) (latch : InputLatch) (k : Fin 8) (v : Bool) :
    (s.setInput latch k v).halt = s.halt := by
  cases latch <;> rfl

/-- A request the core does not accept, disabled or asked for a number outside 0..7, changes nothing (R167, R168). -/
theorem State.hostInterrupt_ignored {s : State} {n : Nat} (h : n < 8 → s.ie = false) :
    (s.hostInterrupt n).state = s := by
  by_cases hn : n < 8
  · rw [s.hostInterrupt_of_lt hn, State.requestInterrupt_of_disabled (h hn)]
  · rw [s.hostInterrupt_of_le (Nat.le_of_not_lt hn)]

theorem State.hostCall_step_of_halted {s : State} (h : s.halt = true) : (s.hostCall .step).state = s := by
  rw [State.hostCall, step_of_halted h]
  rfl

theorem State.hostCall_executeN_of_halted {s : State} (h : s.halt = true) (n : Nat) :
    (s.hostCall (.executeN n)).state = s := by
  rw [State.hostCall, executeN_of_halted h]
  rfl

/-- Only a reset and an accepted request end the halt (R61). -/
theorem State.hostCall_halted {s : State} {call : HostCall} (h : s.halt = true)
    (hreset : ∀ image, call ≠ .reset image) (hint : ∀ n, call = .requestInterrupt n → n < 8 → s.ie = false) :
    (s.hostCall call).state.halt = true := by
  cases call with
  | step => rwa [State.hostCall_step_of_halted h]
  | executeN n => rwa [State.hostCall_executeN_of_halted h]
  | requestInterrupt n => rwa [State.hostCall, State.hostInterrupt_ignored (hint n rfl)]
  | setInput latch k v => exact (s.setInput_halt latch k v).trans h
  | privilegedWrite x v => exact (s.privWrite_halt x v).trans h
  | loadFirmware image => exact (s.loadFirmware_halt image).trans h
  | videoView | snapshot => exact h
  | reset image => exact absurd rfl (hreset image)

/-- A call by which the program runs leaves a stuck core as it is (R162, R168). -/
theorem State.hostCall_of_stuck {s : State} {call : HostCall} (h : s.stuck) (hc : call.ofProgram = true) :
    (s.hostCall call).state = s := by
  obtain ⟨hhalt, hie⟩ := h
  cases call with
  | step => exact State.hostCall_step_of_halted hhalt
  | executeN n => exact State.hostCall_executeN_of_halted hhalt n
  | requestInterrupt n => exact State.hostInterrupt_ignored fun _ => hie
  | setInput | privilegedWrite | loadFirmware | videoView | snapshot | reset => exact nomatch hc

/-- Each of the 12 codes runs through `State.undocumented` with its own opcode byte (R73). -/
theorem exec_of_mem_undocumentedInstrs {x : Instr × Byte} (h : x ∈ undocumentedInstrs) (s : State) :
    ∃ intel, exec x.1 s = .next (s.undocumented x.2 intel) := by
  simp only [undocumentedInstrs, List.mem_cons, List.not_mem_nil, or_false] at h
  rcases h with rfl | rfl | rfl | rfl | rfl | rfl | rfl | rfl | rfl | rfl | rfl | rfl <;> exact ⟨_, rfl⟩

theorem encode_of_mem_undocumentedInstrs : ∀ x ∈ undocumentedInstrs, encode x.1 = [x.2] := by decide

end Sys2Proof.Machine
end

section
/-! SUPPORT. Where an instruction that does not transfer control leaves `PC` (R65). -/

namespace Sys2Proof.Machine

open Claims

theorem State.portIn_pc (s : State) (port : Byte) : (s.portIn port).pc = s.pc := by
  obtain ⟨_, h⟩ | ⟨_, h⟩ | ⟨_, h⟩ | ⟨_, _, _, h⟩ := s.portIn_cases port <;> rw [h]

theorem State.portOut_pc (s : State) (port : Byte) : (s.portOut port).pc = s.pc := by
  obtain ⟨_, h⟩ | ⟨_, h⟩ | ⟨_, _, h⟩ := s.portOut_cases port <;> rw [h]

theorem State.undocumented_pc {s intel : State} (op : Byte) (h : s.cfg.undoc = .aliased → intel.pc = s.pc + 1) :
    (s.undocumented op intel).pc = s.pc + 1 := by
  obtain ⟨_, e⟩ | ⟨ha, e⟩ := s.undocumented_cases op intel <;> rw [e]
  · rfl
  · exact h ha

/-- `PC` moves on by the length: each such instruction ends in `State.advance`, and what it does before keeps `PC`;
under the default the undocumented codes move on by their one byte (R65, R165). -/
theorem exec_pc_of_not_transfers {i : Instr} {s t : State} (hi : transfers s.cfg i = false)
    (h : exec i s = .next t) : t.pc = s.pc + BitVec.ofNat 16 i.length := by
  cases i
  case push p | pop p =>
    cases p
    case sp => exact absurd h (by simp [exec, execPush, execPop])
    all_goals obtain rfl := Host.Outcome.next.inj h; rfl
  case jmp | jnz | jz | jnc | jc | jpo | jpe | jp | jm | call | cnz | cz | cnc | cc | cpo | cpe | cp | cm | ret | rnz
      | rz | rnc | rc | rpo | rpe | rp | rm | rst0 | rst1 | rst2 | rst3 | rst4 | rst5 | rst6 | rst7 | pchl =>
    exact Bool.noConfusion hi
  all_goals obtain rfl := Host.Outcome.next.inj h
  case undoc08 | undoc10 | undoc18 | undoc20 | undoc28 | undoc30 | undoc38 =>
    exact State.undocumented_pc _ fun _ => rfl
  case undocCB | undocD9 | undocDD | undocED | undocFD =>
    exact State.undocumented_pc _ fun ha => absurd ha (beq_eq_false_iff_ne.mp hi)
  case inp port => exact congrArg (· + 2) (s.portIn_pc port)
  case outp port => exact congrArg (· + 2) (s.portOut_pc port)
  case movRR dst _ | movRM dst | mviR dst _ | inrR dst | dcrR dst => cases dst <;> rfl
  case lxi p _ | inx p | dcx p => cases p <;> rfl
  all_goals rfl

end Sys2Proof.Machine
end

section
namespace Sys2Proof.Proofs

open Machine Claims

/-- Settles O1, by the encodings of the constructors. -/
theorem decodeOfEncode : Obligations.DecodeOfEncode :=
  fun _ rest h => decode_encode h rest

/-- Settles O2: the rows of the decoder against the encoder; what the decoder undoes is injective. -/
theorem encodeOfDecode : Obligations.EncodeOfDecode :=
  ⟨fun _ _ _ h => wellFormed_and_encode_of_decode_ok h, fun _ _ hi hj h => encode_injective hi hj h⟩

/-- Settles O7: a run answers a next state, since every step does. -/
theorem everyRunAnswers : Obligations.EveryRunAnswers := by
  intro s n
  obtain ⟨t, ht⟩ := executeN_answers n s
  exact ⟨t, ht, by rw [State.hostCall, ht]; rfl⟩

/-- Settles O4: three bytes always decode, and bytes 2 and 3 choose neither kind nor length; the blocks are counted. -/
theorem everyOpcodeDecodes : Obligations.EveryOpcodeDecodes := by
  refine ⟨fun op b c => ⟨_, decode_three op b c⟩, fun op b c => ⟨opKind_decodeBytes op b c, length_decodeBytes op b c⟩,
    ?_, ?_, ?_, ?_⟩ <;> rw [countKind_eq_blocks] <;> decide

/-- Settles O6: the idle steps, the calls that keep the latch, and the two that clear it. -/
theorem haltedCoreIsIdle : Obligations.HaltedCoreIsIdle := by
  refine fun s h => ⟨step_of_halted h, executeN_of_halted h, fun _ hreset hint => State.hostCall_halted h hreset hint,
    fun n hn hie => ?_, fun image => State.loadFirmware_halt _ image⟩
  rw [State.hostCall, s.hostInterrupt_of_lt hn, State.requestInterrupt_of_enabled hie]
  rfl

/-- Settles O10, instruction by instruction. -/
theorem pcAdvancesByLength : Obligations.PcAdvancesByLength :=
  fun _ _ _ hi h => exec_pc_of_not_transfers hi h

/-- Settles O56: each call of the schedule leaves the stuck core as it is. -/
theorem stuckCoreStaysStuck : Obligations.StuckCoreStaysStuck := by
  intro s calls hs hprog
  refine State.afterCalls_invariant (P := (· = s)) (fun u call hc hu => ?_) rfl
  rw [hu]
  exact State.hostCall_of_stuck hs (List.all_eq_true.mp hprog call hc)

/-- Settles O48: each code runs through `State.undocumented`, which records it under the default. -/
theorem unimplementedEvent : Obligations.UnimplementedEvent := by
  intro s hs x hx
  obtain ⟨intel, h⟩ := exec_of_mem_undocumentedInstrs hx s
  rw [h, State.undocumented_of_unimplemented hs]
  exact ⟨rfl, encode_of_mem_undocumentedInstrs x hx⟩

end Sys2Proof.Proofs
end

-- Proofs of the statements of spec family 40_data_transfer, with the facts on stores, register writes and operand words
-- they rest on
section
/-! SUPPORT. What a stored byte and a written register leave, HL loaded from memory, and an operand word's bytes. -/

namespace Sys2Proof.Machine

open Claims

theorem State.storedByte_write {s : State} (h : s.Inv) (x : Word) (v : Byte) : StoredByte s (s.write x v) x v :=
  fun y => s.read_write h x y v

theorem State.onlyRegs_writeReg (s : State) (dst : Reg) (v : Byte) (n : Word) :
    OnlyRegs s ((s.writeReg dst v).advance n) n := by
  cases dst <;> rfl

theorem State.regIs_writeReg (s : State) (dst : Reg) (v : Byte) (n : Word) :
    RegIs s ((s.writeReg dst v).advance n) dst v := by
  refine ⟨?_, fun r hr => ?_⟩ <;> rw [State.readReg_advance, State.readReg_writeReg]
  · exact if_pos rfl
  · exact if_neg hr

/-- HL loaded with a word that `u` holds: L from the address, H from the next one (R46, R85, R149). -/
theorem State.writePair_hl_read16 (s u : State) (x : Word) :
    s.writePair .hl (u.read16 x) = { s with h := u.read (x + 1), l := u.read x } := by
  have hhi : hiByte (u.read16 x) = u.read (x + 1) := hiByte_joinBytes ..
  have hlo : loByte (u.read16 x) = u.read x := loByte_joinBytes ..
  rw [State.writePair, hhi, hlo]

/-- R85: `LHLD` reads both bytes into HL. -/
theorem exec_lhld_eq (s : State) (addr : Word) :
    exec (.lhld addr) s = .next { s with l := s.read addr, h := s.read (addr + 1), pc := s.pc + 3 } := by
  rw [exec_lhld, execLhld, State.writePair_hl_read16]
  rfl

/-- R149: `XTHL` stores the old HL and loads HL with what the stack held before, whether or not the stores are
dropped. -/
theorem exec_xthl_eq (s : State) :
    exec .xthl s =
      .next { s.write16 s.sp s.hl with l := s.read s.sp, h := s.read (s.sp + 1), pc := s.pc + 1 } := by
  rw [exec_xthl, execXthl, State.top16, State.writePair_hl_read16]
  rfl

end Sys2Proof.Machine

namespace Sys2Proof

open Machine

/-- The bytes of an instruction with an operand word, low byte first (R48, R70). -/
theorem withWord_eq (op : Byte) (v : Word) : withWord op v = [op, v.setWidth 8, (v >>> 8).setWidth 8] := by
  rw [withWord, loByte_eq, hiByte_eq]

end Sys2Proof
end

section
namespace Sys2Proof.Proofs

open Machine Claims

/-- Settles O20: each instruction is one ordinary write, then `State.advance`. -/
theorem byteStores : Obligations.ByteStores := by
  intro s src v addr hs
  refine ⟨⟨_, rfl, rfl, ?_⟩, ⟨_, rfl, rfl, ?_⟩, ⟨_, rfl, rfl, ?_⟩, ⟨_, rfl, rfl, ?_⟩, ⟨_, rfl, rfl, ?_⟩,
    rfl, rfl, withWord_eq 0x32 addr, rfl, rfl⟩ <;> exact State.storedByte_write hs _ _

/-- Settles O23: LHLD and XTHL by their equations; SHLD and XTHL store with `State.write16`. -/
theorem hlMemoryTransfers : Obligations.HlMemoryTransfers := by
  intro s addr hs
  refine ⟨exec_lhld_eq s addr, ⟨_, rfl, rfl, ?_⟩, ⟨_, exec_xthl_eq s, rfl, ?_⟩, withWord_eq 0x2A addr,
    withWord_eq 0x22 addr, rfl⟩
  · exact State.storedWord_write16 hs addr s.hl
  · exact State.storedWord_write16 hs s.sp s.hl

/-- Settles O19: each instruction is one register write, then `State.advance`. -/
theorem movesToRegister : Obligations.MovesToRegister := by
  intro s dst src v
  have moves (w : Byte) (n : Word) : OnlyRegs s ((s.writeReg dst w).advance n) n ∧
      RegIs s ((s.writeReg dst w).advance n) dst w := ⟨s.onlyRegs_writeReg dst w n, s.regIs_writeReg dst w n⟩
  exact ⟨rfl, ⟨_, rfl, moves (s.readReg src) 1⟩, ⟨_, rfl, moves s.readM 1⟩, ⟨_, rfl, moves v 2⟩, rfl, rfl, rfl⟩

/-- Settles O21: the arms write A; the operand word is encoded low byte first. -/
theorem accumulatorLoads : Obligations.AccumulatorLoads :=
  fun _ addr => ⟨rfl, rfl, rfl, withWord_eq 0x3A addr, rfl, rfl⟩

/-- Settles O22: in terms of the word's two halves, every arm and encoding is as the model writes it. -/
theorem pairLoadsAndExchange : Obligations.PairLoadsAndExchange := by
  intro s v
  rw [← hiByte_eq v, ← loByte_eq v]
  exact ⟨rfl, rfl, rfl, rfl, rfl, rfl, fun _ => rfl, rfl, rfl⟩

end Sys2Proof.Proofs
end

-- Proofs of the statements of spec family 41_arithmetic, with the facts on result flags, the adder, the subtracter,
-- the decimal correction and pair writes they rest on
section
/-! SUPPORT. The flags of a result, and carry and auxiliary carry over exact numbers (R90 to R95). -/

namespace Sys2Proof.Machine

open Claims

theorem lowNibble_toNat (v : Byte) : (v &&& 0x0F).toNat = v.toNat % 16 :=
  Nat.and_two_pow_sub_one_eq_mod v.toNat 4

theorem highNibble_toNat (v : Byte) : (v >>> 4).toNat = v.toNat / 16 := by
  rw [BitVec.toNat_ushiftRight, Nat.shiftRight_eq_div_pow]

/-- The complement's low nibble is the distance to 15. -/
theorem lowNibble_not (v : Byte) : (~~~v &&& 0x0F).toNat = 15 - v.toNat % 16 := by
  have := v.isLt
  rw [lowNibble_toNat, BitVec.toNat_not]
  omega

theorem parity8_iff (v : Byte) : parity8 v = true ↔ bitSum v % 2 = 0 := by
  rw [parity8, popcount_eq, beq_iff_eq, bitSum]

/-- R93: `setZSP` gives the three flags of its result. -/
theorem Flags.resultFlags_setZSP (f : Flags) (res : Byte) : ResultFlags (f.setZSP res) res := by
  refine ⟨?zero, ?sign, parity8_iff res⟩
  case zero => rw [Flags.setZSP_z, beq_iff_eq, ← BitVec.toNat_inj]; rfl
  case sign => rw [Flags.setZSP_s, ← BitVec.msb_eq_getLsbD_last, BitVec.msb_eq_decide, decide_eq_true_iff]

theorem Flags.resultFlags_ofAlu (f : Flags) (r : AluResult) : ResultFlags (f.ofAlu r) r.res :=
  f.resultFlags_setZSP r.res

theorem Flags.resultFlags_ofStep (f : Flags) (r : AluResult) : ResultFlags (f.ofStep r) r.res :=
  f.resultFlags_setZSP r.res

theorem add8_cy_iff (a b : Byte) (cin : Bool) : (add8 a b cin).cy = true ↔ 255 < a.toNat + b.toNat + cin.toNat :=
  decide_eq_true_iff

theorem add8_ac_iff (a b : Byte) (cin : Bool) :
    (add8 a b cin).ac = true ↔ 15 < a.toNat % 16 + b.toNat % 16 + cin.toNat := by
  rw [← lowNibble_toNat a, ← lowNibble_toNat b]
  exact decide_eq_true_iff

theorem sub8_cy_iff (mode : AcSub) (a b : Byte) (bin : Bool) :
    (sub8 mode a b bin).cy = true ↔ a.toNat < b.toNat + bin.toNat := by
  refine decide_eq_true_iff.trans ?_
  omega

theorem sub8_ac_borrow_iff (a b : Byte) (bin : Bool) :
    (sub8 .borrow a b bin).ac = true ↔ a.toNat % 16 < b.toNat % 16 + bin.toNat := by
  rw [← lowNibble_toNat a, ← lowNibble_toNat b]
  exact decide_eq_true_iff

theorem sub8_ac_intel_iff (a b : Byte) (bin : Bool) :
    (sub8 .intel a b bin).ac = true ↔ 15 < a.toNat % 16 + (15 - b.toNat % 16) + (1 - bin.toNat) := by
  rw [← lowNibble_toNat a, ← lowNibble_not b]
  exact decide_eq_true_iff

/-- Flags that take CY and AC from the subtracter are those R95 gives, under either setting. -/
theorem borrows_of_sub8 {s t : State} {a v : Byte} {bin : Bool}
    (hcy : t.flags.cy = (sub8 s.cfg.acSub a v bin).cy) (hac : t.flags.ac = (sub8 s.cfg.acSub a v bin).ac) :
    Borrows s t a v bin := by
  refine ⟨?_, fun hmode => ?_, fun hmode => ?_⟩
  · rw [hcy, sub8_cy_iff]
  · rw [hac, hmode, sub8_ac_borrow_iff]
  · rw [hac, hmode, sub8_ac_intel_iff]

/-- What the six additions have in common (R96 to R101). -/
theorem State.adds_accAdd (s : State) (v : Byte) (cin : Bool) (n : Word) :
    Adds s ((s.accAdd v cin).advance n) v cin n :=
  ⟨rfl, add8_res s.a v cin, s.flags.resultFlags_ofAlu _, add8_cy_iff s.a v cin, add8_ac_iff s.a v cin⟩

/-- What the six subtractions have in common (R102 to R107). -/
theorem State.subtracts_accSub (s : State) (v : Byte) (bin : Bool) (n : Word) :
    Subtracts s ((s.accSub v bin).advance n) v bin n :=
  ⟨rfl, sub8_res s.cfg.acSub s.a v bin, s.flags.resultFlags_ofAlu _, borrows_of_sub8 rfl rfl⟩

end Sys2Proof.Machine
end

section
/-! SUPPORT. Increment and decrement of a byte, and of a pair (R108 to R113). -/

namespace Sys2Proof.Machine

open Claims

theorem add8_one_res (v : Byte) : (add8 v 1 false).res = v + 1 := by
  apply BitVec.eq_of_toNat_eq
  rw [add8_res, BitVec.toNat_add]
  rfl

theorem sub8_one_res (mode : AcSub) (v : Byte) : (sub8 mode v 1 false).res = v - 1 := by
  have hres : ((sub8 mode v 1 false).res.toNat : Int) = ((v.toNat : Int) - 1 - 0) % 256 := sub8_res mode v 1 false
  bv_omega

/-- R108, R109: the flags of an increment. -/
theorem Flags.ofStep_increment (f : Flags) (v : Byte) :
    ResultFlags (f.ofStep (add8 v 1 false)) (v + 1) ∧ (f.ofStep (add8 v 1 false)).cy = f.cy ∧
      ((f.ofStep (add8 v 1 false)).ac = true ↔ v.toNat % 16 = 15) := by
  refine ⟨add8_one_res v ▸ f.resultFlags_ofStep _, rfl, (add8_ac_iff v 1 false).trans ?_⟩
  show 15 < v.toNat % 16 + 1 + 0 ↔ v.toNat % 16 = 15
  omega

/-- R110, R111: the flags of a decrement, AC under either setting of `P_AC_SUB`. -/
theorem Flags.ofStep_decrement (f : Flags) (mode : AcSub) (v : Byte) :
    ResultFlags (f.ofStep (sub8 mode v 1 false)) (v - 1) ∧ (f.ofStep (sub8 mode v 1 false)).cy = f.cy ∧
      (mode = .borrow → ((f.ofStep (sub8 mode v 1 false)).ac = true ↔ v.toNat % 16 = 0)) ∧
      (mode = .intel → ((f.ofStep (sub8 mode v 1 false)).ac = true ↔ v.toNat % 16 ≠ 0)) := by
  refine ⟨sub8_one_res mode v ▸ f.resultFlags_ofStep _, rfl, ?borrow, ?intel⟩
  case borrow =>
    rintro rfl
    refine (sub8_ac_borrow_iff v 1 false).trans ?_
    show v.toNat % 16 < 1 + 0 ↔ v.toNat % 16 = 0
    omega
  case intel =>
    rintro rfl
    refine (sub8_ac_intel_iff v 1 false).trans ?_
    show 15 < v.toNat % 16 + (15 - 1) + (1 - 0) ↔ v.toNat % 16 ≠ 0
    omega

theorem State.onlyRegsFlags_writeReg (s : State) (dst : Reg) (v : Byte) (f : Flags) (n : Word) :
    OnlyRegsFlags s (State.advance { s.writeReg dst v with flags := f } n) n := by
  cases dst <;> rfl

/-- Flags are no register. -/
theorem State.regIs_writeReg_flags (s : State) (dst : Reg) (v : Byte) (f : Flags) (n : Word) :
    RegIs s (State.advance { s.writeReg dst v with flags := f } n) dst v :=
  s.regIs_writeReg dst v n

/-- R108: `INR r` as a register write. -/
theorem exec_inrR_eq (s : State) (dst : Reg) :
    exec (.inrR dst) s = .next (State.advance
      { s.writeReg dst (s.readReg dst + 1) with flags := s.flags.ofStep (add8 (s.readReg dst) 1 false) } 1) := by
  rw [exec_inrR, execInrR, add8_one_res]

/-- R110: `DCR r` as a register write. -/
theorem exec_dcrR_eq (s : State) (dst : Reg) :
    exec (.dcrR dst) s = .next (State.advance
      { s.writeReg dst (s.readReg dst - 1) with
        flags := s.flags.ofStep (sub8 s.cfg.acSub (s.readReg dst) 1 false) } 1) := by
  rw [exec_dcrR, execDcrR, sub8_one_res]

/-- R109: `INR M` as an ordinary write. -/
theorem exec_inrM_eq (s : State) :
    exec .inrM s = .next (State.advance
      { s.writeM (s.readM + 1) with flags := s.flags.ofStep (add8 s.readM 1 false) } 1) := by
  rw [exec_inrM, execInrM, add8_one_res]

/-- R111: `DCR M` as an ordinary write. -/
theorem exec_dcrM_eq (s : State) :
    exec .dcrM s = .next (State.advance
      { s.writeM (s.readM - 1) with flags := s.flags.ofStep (sub8 s.cfg.acSub s.readM 1 false) } 1) := by
  rw [exec_dcrM, execDcrM, sub8_one_res]

theorem State.readPair_writePair_same (s : State) (p : Pair) (v : Word) : (s.writePair p v).readPair p = v := by
  cases p
  case sp => rfl
  case bc | de | hl => exact joinBytes_hi_lo v

/-- The pairs share no register (R23, R24). -/
theorem State.readPair_writePair_of_ne (s : State) {p q : Pair} (h : q ≠ p) (v : Word) :
    (s.writePair p v).readPair q = s.readPair q := by
  cases p <;> cases q
  case bc.bc | de.de | hl.hl | sp.sp => exact absurd rfl h
  all_goals rfl

/-- What INX and DCX have in common: one pair written, no flag, the other pairs as before (R112, R113). -/
theorem State.writePair_advance_frame (s : State) (p : Pair) (v n : Word) :
    let t := (s.writePair p v).advance n
    t.readPair p = v ∧ (∀ q, q ≠ p → t.readPair q = s.readPair q) ∧
      t = { s with b := t.b, c := t.c, d := t.d, e := t.e, h := t.h, l := t.l, sp := t.sp, pc := s.pc + n } := by
  refine ⟨s.readPair_writePair_same p v, fun q hq => s.readPair_writePair_of_ne hq v, ?frame⟩
  cases p <;> rfl

end Sys2Proof.Machine
end

section
/-! SUPPORT. The decimal correction over exact nibbles (R115). -/

namespace Sys2Proof.Machine

/-- What `DAA` adds for the low digit (R115). -/
def daaLow (a : Byte) (ac : Bool) : Nat := if ac = true ∨ 9 < a.toNat % 16 then 6 else 0

/-- What `DAA` adds for the high digit (R115). -/
def daaHigh (a : Byte) (cy : Bool) : Nat :=
  if cy = true ∨ 9 < a.toNat / 16 ∨ (9 ≤ a.toNat / 16 ∧ 9 < a.toNat % 16) then 0x60 else 0

theorem daaLow_cases (a : Byte) (ac : Bool) : daaLow a ac = 6 ∨ daaLow a ac = 0 := ite_eq_or_eq _ _ _

theorem daaHigh_cases (a : Byte) (cy : Bool) : daaHigh a cy = 0x60 ∨ daaHigh a cy = 0 := ite_eq_or_eq _ _ _

/-- The model's test for the low correction is that of R115. -/
theorem daaFixLow_iff (ac : Bool) (lsb : Nat) : (ac || decide (lsb > 9)) = true ↔ ac = true ∨ 9 < lsb := by
  rw [Bool.or_eq_true, decide_eq_true_iff]

/-- The model's test for the high correction is that of R115. -/
theorem daaFixHigh_iff (cy : Bool) (lsb msb : Nat) :
    (cy || decide (msb > 9) || (decide (msb ≥ 9) && decide (lsb > 9))) = true ↔
      cy = true ∨ 9 < msb ∨ (9 ≤ msb ∧ 9 < lsb) := by
  simp [or_assoc]

/-- The model's correction is the sum of the two: their bits are disjoint. -/
theorem daaCorrection_fst (a : Byte) (ac cy : Bool) :
    (daaCorrection a ac cy).1.toNat = daaLow a ac + daaHigh a cy := by
  simp only [daaCorrection, daaLow, daaHigh, daaFixLow_iff, daaFixHigh_iff, lowNibble_toNat, highNibble_toNat]
  split <;> split <;> rfl

/-- CY says that the high correction is made; an old CY alone makes it. -/
theorem daaCorrection_snd (a : Byte) (ac cy : Bool) : (daaCorrection a ac cy).2 = true ↔ daaHigh a cy = 0x60 := by
  simp only [daaCorrection, daaHigh, Bool.or_eq_true cy, daaFixHigh_iff, lowNibble_toNat, highNibble_toNat]
  split
  case isTrue h => exact iff_of_true (.inr h) rfl
  case isFalse h => exact iff_of_false (fun hcy => h (hcy.elim .inl id)) (by decide)

end Sys2Proof.Machine
end

section
namespace Sys2Proof.Proofs

open Machine Claims

/-- Settles O24: each of the six is `State.accAdd`, then `State.advance`. -/
theorem additions : Obligations.Additions := by
  intro s src v
  exact ⟨⟨_, rfl, s.adds_accAdd (s.readReg src) false 1⟩, ⟨_, rfl, s.adds_accAdd s.readM false 1⟩,
    ⟨_, rfl, s.adds_accAdd v false 2⟩, ⟨_, rfl, s.adds_accAdd (s.readReg src) s.flags.cy 1⟩,
    ⟨_, rfl, s.adds_accAdd s.readM s.flags.cy 1⟩, ⟨_, rfl, s.adds_accAdd v s.flags.cy 2⟩, rfl, rfl, rfl, rfl, rfl, rfl⟩

/-- Settles O25: each of the six is `State.accSub`, then `State.advance`. -/
theorem subtractions : Obligations.Subtractions := by
  intro s src v
  exact ⟨⟨_, rfl, s.subtracts_accSub (s.readReg src) false 1⟩, ⟨_, rfl, s.subtracts_accSub s.readM false 1⟩,
    ⟨_, rfl, s.subtracts_accSub v false 2⟩, ⟨_, rfl, s.subtracts_accSub (s.readReg src) s.flags.cy 1⟩,
    ⟨_, rfl, s.subtracts_accSub s.readM s.flags.cy 1⟩, ⟨_, rfl, s.subtracts_accSub v s.flags.cy 2⟩,
    rfl, rfl, rfl, rfl, rfl, rfl⟩

/-- Settles O26: a register write of the value plus or minus 1, with the flags of that step. -/
theorem registerIncrementDecrement : Obligations.RegisterIncrementDecrement := by
  intro s dst
  exact ⟨⟨_, exec_inrR_eq s dst, s.onlyRegsFlags_writeReg .., s.regIs_writeReg_flags ..,
      s.flags.ofStep_increment (s.readReg dst)⟩,
    ⟨_, exec_dcrR_eq s dst, s.onlyRegsFlags_writeReg .., s.regIs_writeReg_flags ..,
      s.flags.ofStep_decrement s.cfg.acSub (s.readReg dst)⟩, rfl, rfl⟩

/-- Settles O27: an ordinary write at HL of the value plus or minus 1; the flags do not depend on whether it is
dropped. -/
theorem memoryIncrementDecrement : Obligations.MemoryIncrementDecrement := by
  rintro s _ hs rfl
  exact ⟨⟨_, exec_inrM_eq s, rfl, State.storedByte_write hs s.hl _, s.flags.ofStep_increment s.readM⟩,
    ⟨_, exec_dcrM_eq s, rfl, State.storedByte_write hs s.hl _, s.flags.ofStep_decrement s.cfg.acSub s.readM⟩, rfl, rfl⟩

/-- Settles O28: each is one pair write, then `State.advance`. -/
theorem pairIncrementDecrement : Obligations.PairIncrementDecrement := by
  intro s p
  exact ⟨rfl, ⟨_, rfl, s.writePair_advance_frame p (s.readPair p + 1) 1⟩,
    ⟨_, rfl, s.writePair_advance_frame p (s.readPair p - 1) 1⟩, rfl, rfl⟩

/-- Settles O29: HL is written with the exact sum's low 16 bits, CY with whether it has more. -/
theorem doubleAdd : Obligations.DoubleAdd := by
  intro s p
  refine ⟨⟨_, rfl, rfl, ?_, decide_eq_true_iff⟩, rfl⟩
  exact (congrArg BitVec.toNat (joinBytes_hi_lo _)).trans (BitVec.toNat_ofNat ..)

/-- Settles O30: A gets the sum of the two corrections, and the low nibble of that sum is the low correction. -/
theorem decimalAdjust : Obligations.DecimalAdjust := by
  rintro s _ _ low high rfl rfl (rfl : low = daaLow s.a s.flags.ac) (rfl : high = daaHigh s.a s.flags.cy)
  have hsum := daaCorrection_fst s.a s.flags.ac s.flags.cy
  refine ⟨⟨_, rfl, rfl, ?res, s.flags.resultFlags_ofAlu _, daaCorrection_snd s.a s.flags.ac _, ?ac⟩, rfl⟩
  case res =>
    refine (BitVec.toNat_add ..).trans ?_
    rw [hsum, Nat.add_assoc]
  case ac =>
    refine decide_eq_true_iff.trans ?_
    rw [lowNibble_toNat, lowNibble_toNat, hsum]
    have := daaLow_cases s.a s.flags.ac
    have := daaHigh_cases s.a s.flags.cy
    omega

end Sys2Proof.Proofs
end

-- Proofs of the statements of spec family 42_logical, with the facts on compares, logical results and rotated bytes
-- they rest on
section
/-! SUPPORT. The flags of a compare and of a logical result (R116 to R127). -/

namespace Sys2Proof.Machine

open Claims

/-- Without a borrow in, the subtracter gives the bit vector difference. -/
theorem sub8_res_eq_sub (mode : AcSub) (a b : Byte) : (sub8 mode a b false).res = a - b := by
  have hres : ((sub8 mode a b false).res.toNat : Int) = ((a.toNat : Int) - b.toNat - 0) % 256 := sub8_res mode a b false
  bv_omega

/-- What the three compares have in common: A is kept, and Z of the difference says that the operands are equal (R125 to
R127). -/
theorem State.compares_accCompare (s : State) (v : Byte) (n : Word) : Compares s ((s.accCompare v).advance n) v n := by
  have hflags : ResultFlags (s.flags.ofAlu (sub8 s.cfg.acSub s.a v false)) (s.a - v) :=
    sub8_res_eq_sub s.cfg.acSub s.a v ▸ s.flags.resultFlags_ofAlu _
  obtain ⟨hzero, hsign, hparity⟩ := hflags
  refine ⟨rfl, hzero.trans ?zero, hsign.trans ?sign, hparity, borrows_of_sub8 rfl rfl⟩
  case zero => bv_omega
  case sign =>
    rw [BitVec.toNat_sub]
    omega

/-- What the nine logical operations have in common: A and its flags, CY cleared, AC as the operation fixes it (R116 to
R124). -/
theorem State.logic_ofLogic (s : State) (res : Byte) (ac : Bool) (n : Word) :
    Logic s (State.advance { s with a := res, flags := s.flags.ofLogic res ac } n) res ac n :=
  ⟨rfl, s.flags.resultFlags_setZSP res, rfl, rfl⟩

end Sys2Proof.Machine
end

section
/-! SUPPORT. The rotated byte over exact numbers (R128 to R131). -/

namespace Sys2Proof.Machine

/-- Bit 7 as a number. -/
theorem bit7_toNat (v : Byte) : (v.getLsbD 7).toNat = v.toNat / 128 := by
  have := v.isLt
  refine (Nat.toNat_testBit v.toNat 7).trans ?_
  omega

/-- Bit 0 as a number. -/
theorem bit0_toNat (v : Byte) : (v.getLsbD 0).toNat = v.toNat % 2 := by
  rw [BitVec.getLsbD, Nat.toNat_testBit, pow_zero, Nat.div_one]

theorem bit7_iff (v : Byte) : v.getLsbD 7 = true ↔ 128 ≤ v.toNat := by
  have := v.isLt
  rw [← Bool.toNat_eq_one, bit7_toNat]
  omega

theorem bit0_iff (v : Byte) : v.getLsbD 0 = true ↔ v.toNat % 2 = 1 := by
  rw [← Bool.toNat_eq_one, bit0_toNat]

theorem bitByte_toNat (x : Bool) : (bitByte x).toNat = x.toNat := by
  cases x <;> rfl

/-- Bytes with no common bit are joined by addition. -/
theorem or_toNat_of_dvd {x y : Byte} {k : Nat} (hx : 2 ^ k ∣ x.toNat) (hy : y.toNat < 2 ^ k) :
    (x ||| y).toNat = x.toNat + y.toNat := by
  obtain ⟨n, hn⟩ := hx
  rw [BitVec.toNat_or, hn, Nat.two_pow_add_eq_or_of_lt hy]

/-- A byte moved left, with a bit brought in at the low end. -/
theorem shiftLeft_or_bitByte_toNat (v : Byte) (x : Bool) :
    (v <<< 1 ||| bitByte x).toNat = v.toNat * 2 % 256 + x.toNat := by
  have hv : (v <<< 1).toNat = v.toNat * 2 % 256 := by rw [BitVec.toNat_shiftLeft, Nat.shiftLeft_eq]
  have hx := bitByte_toNat x
  have := x.toNat_le
  rw [or_toNat_of_dvd (k := 1) (by omega) (by omega), hv, hx]

/-- A byte moved right, with a bit brought in at the high end. -/
theorem shiftRight_or_bitByte_toNat (v : Byte) (x : Bool) :
    (v >>> 1 ||| bitByte x <<< 7).toNat = v.toNat / 2 + x.toNat * 128 := by
  have hv : (v >>> 1).toNat = v.toNat / 2 := BitVec.toNat_ushiftRight ..
  have hx : (bitByte x <<< 7).toNat = x.toNat * 128 := by cases x <;> rfl
  have := v.isLt
  rw [BitVec.or_comm, or_toNat_of_dvd (k := 7) (by omega) (by omega), hv, hx, Nat.add_comm]

/-- What RLC and RAL have in common: `x` comes in at bit 0, bit 7 goes to CY (R128, R130). -/
theorem State.rotated_left (s : State) (x : Bool) :
    let t := s.rotated (s.a <<< 1 ||| bitByte x) (s.a.getLsbD 7)
    t = { s with a := t.a, flags := { s.flags with cy := t.flags.cy }, pc := s.pc + 1 } ∧
      t.a.toNat = s.a.toNat * 2 % 256 + x.toNat ∧ (t.flags.cy = true ↔ 128 ≤ s.a.toNat) :=
  ⟨rfl, shiftLeft_or_bitByte_toNat s.a x, bit7_iff s.a⟩

/-- What RRC and RAR have in common: `x` comes in at bit 7, bit 0 goes to CY (R129, R131). -/
theorem State.rotated_right (s : State) (x : Bool) :
    let t := s.rotated (s.a >>> 1 ||| bitByte x <<< 7) (s.a.getLsbD 0)
    t = { s with a := t.a, flags := { s.flags with cy := t.flags.cy }, pc := s.pc + 1 } ∧
      t.a.toNat = s.a.toNat / 2 + x.toNat * 128 ∧ (t.flags.cy = true ↔ s.a.toNat % 2 = 1) :=
  ⟨rfl, shiftRight_or_bitByte_toNat s.a x, bit0_iff s.a⟩

end Sys2Proof.Machine
end

section
namespace Sys2Proof.Proofs

open Machine Claims

/-- Settles O33: each of the three is `State.accCompare`, then `State.advance`. -/
theorem comparisons : Obligations.Comparisons := by
  intro s src v
  exact ⟨⟨_, rfl, s.compares_accCompare (s.readReg src) 1⟩, ⟨_, rfl, s.compares_accCompare s.readM 1⟩,
    ⟨_, rfl, s.compares_accCompare v 2⟩, rfl, rfl, rfl⟩

/-- Settles O34: RAL and RAR bring in CY; RLC and RRC bring in the bit they take out, read as a number. -/
theorem rotates : Obligations.Rotates := by
  intro s
  refine ⟨⟨_, rfl, ?rlc⟩, ⟨_, rfl, ?rrc⟩, ⟨_, rfl, s.rotated_left s.flags.cy⟩, ⟨_, rfl, s.rotated_right s.flags.cy⟩,
    rfl, rfl, rfl, rfl⟩
  case rlc => exact bit7_toNat s.a ▸ s.rotated_left (s.a.getLsbD 7)
  case rrc => exact bit0_toNat s.a ▸ s.rotated_right (s.a.getLsbD 0)

/-- Settles O31: each of the three is `State.accAnd`, then `State.advance`. -/
theorem logicalAnd : Obligations.LogicalAnd := by
  intro s src v
  exact ⟨⟨_, rfl, s.logic_ofLogic (s.a &&& s.readReg src) true 1⟩, ⟨_, rfl, s.logic_ofLogic (s.a &&& s.readM) true 1⟩,
    ⟨_, rfl, s.logic_ofLogic (s.a &&& v) true 2⟩, rfl, rfl, rfl⟩

/-- Settles O32: each of the six is `State.accXor` or `State.accOr`, then `State.advance`. -/
theorem logicalXorAndOr : Obligations.LogicalXorAndOr := by
  intro s src v
  exact ⟨⟨_, rfl, s.logic_ofLogic (s.a ^^^ s.readReg src) false 1⟩, ⟨_, rfl, s.logic_ofLogic (s.a ^^^ s.readM) false 1⟩,
    ⟨_, rfl, s.logic_ofLogic (s.a ^^^ v) false 2⟩, ⟨_, rfl, s.logic_ofLogic (s.a ||| s.readReg src) false 1⟩,
    ⟨_, rfl, s.logic_ofLogic (s.a ||| s.readM) false 1⟩, ⟨_, rfl, s.logic_ofLogic (s.a ||| v) false 2⟩,
    rfl, rfl, rfl, rfl, rfl, rfl⟩

/-- Settles O35: the complement of a byte is its distance to 255; CMC and STC are `State.setCarry`. -/
theorem complementAndCarry : Obligations.ComplementAndCarry :=
  fun _ => ⟨⟨_, rfl, rfl, BitVec.toNat_not⟩, rfl, rfl, rfl, rfl, rfl⟩

end Sys2Proof.Proofs
end

-- Proofs of the statements of spec family 43_branch, with the facts on conditions, the three conditional families, the
-- restarts and the return to a pushed address they rest on
section
/-! SUPPORT. What a conditional transfer does under its condition and under the negation (R71, R136, R138, R140). -/

namespace Sys2Proof.Machine

open Claims

/-- The model's condition test is the condition table over propositions (R71). -/
theorem Flags.holds_iff (f : Flags) (cc : Cond) : f.holds cc = true ↔ CondTrue f cc := by
  cases cc
  case z | c | pe | m => exact Iff.rfl
  case nz | nc | po | p => exact iff_of_eq (Bool.not_eq_true' _)

section
variable {s : State} {cc : Cond}

theorem State.jumpIf_of_condTrue (h : CondTrue s.flags cc) (x : Word) : s.jumpIf cc x = s.jump x :=
  if_pos ((s.flags.holds_iff cc).mpr h)

theorem State.jumpIf_of_not_condTrue (h : ¬ CondTrue s.flags cc) (x : Word) : s.jumpIf cc x = s.advance 3 :=
  if_neg (mt (s.flags.holds_iff cc).mp h)

theorem State.callIf_of_condTrue (h : CondTrue s.flags cc) (x : Word) : s.callIf cc x = s.callTo x (s.pc + 3) :=
  if_pos ((s.flags.holds_iff cc).mpr h)

theorem State.callIf_of_not_condTrue (h : ¬ CondTrue s.flags cc) (x : Word) : s.callIf cc x = s.advance 3 :=
  if_neg (mt (s.flags.holds_iff cc).mp h)

theorem State.returnIf_of_condTrue (h : CondTrue s.flags cc) : s.returnIf cc = s.returnTo :=
  if_pos ((s.flags.holds_iff cc).mpr h)

theorem State.returnIf_of_not_condTrue (h : ¬ CondTrue s.flags cc) : s.returnIf cc = s.advance 1 :=
  if_neg (mt (s.flags.holds_iff cc).mp h)

end

end Sys2Proof.Machine
end

section
/-! SUPPORT. The rows of the four families: what each runs and how it is encoded (R68, R136, R138, R140, R141). -/

namespace Sys2Proof.Machine

open Claims

theorem exec_encode_of_mem_jumpsOn {j : (Word → Instr) × Byte × Cond} (hj : j ∈ jumpsOn) (s : State) (addr : Word) :
    exec (j.1 addr) s = .next (s.jumpIf j.2.2 addr) ∧ encode (j.1 addr) = withWord j.2.1 addr := by
  simp only [jumpsOn, List.mem_cons, List.not_mem_nil, or_false] at hj
  rcases hj with rfl | rfl | rfl | rfl | rfl | rfl | rfl | rfl <;> exact ⟨rfl, rfl⟩

theorem exec_encode_of_mem_callsOn {c : (Word → Instr) × Byte × Cond} (hc : c ∈ callsOn) (s : State) (addr : Word) :
    exec (c.1 addr) s = .next (s.callIf c.2.2 addr) ∧ encode (c.1 addr) = withWord c.2.1 addr := by
  simp only [callsOn, List.mem_cons, List.not_mem_nil, or_false] at hc
  rcases hc with rfl | rfl | rfl | rfl | rfl | rfl | rfl | rfl <;> exact ⟨rfl, rfl⟩

theorem exec_encode_of_mem_returnsOn {r : Instr × Byte × Cond} (hr : r ∈ returnsOn) (s : State) :
    exec r.1 s = .next (s.returnIf r.2.2) ∧ encode r.1 = [r.2.1] := by
  simp only [returnsOn, List.mem_cons, List.not_mem_nil, or_false] at hr
  rcases hr with rfl | rfl | rfl | rfl | rfl | rfl | rfl | rfl <;> exact ⟨rfl, rfl⟩

/-- `RST n` is a call of `8n` (R141). -/
theorem exec_encode_of_mem_restarts {x : Instr × Byte × Nat} (hx : x ∈ restarts) (s : State) :
    exec x.1 s = .next (s.callTo (BitVec.ofNat 16 (8 * x.2.2)) (s.pc + 1)) ∧ encode x.1 = [x.2.1] := by
  simp only [restarts, List.mem_cons, List.not_mem_nil, or_false] at hx
  rcases hx with rfl | rfl | rfl | rfl | rfl | rfl | rfl | rfl <;> exact ⟨rfl, rfl⟩

end Sys2Proof.Machine
end

section
/-! SUPPORT. The call's push and the return to a pushed address (R137, R139, R143, R144). -/

namespace Sys2Proof.Machine

open Claims

/-- What the calls and the restarts have in common: the return address is stored at the new `SP` (R137, R141). -/
theorem State.callTo_storedWord {s : State} (hs : s.Inv) (target back : Word) :
    let t := s.callTo target back
    t = { s with mem := t.mem, sp := s.sp - 2, pc := target } ∧ StoredWord s t (s.sp - 2) back :=
  ⟨rfl, State.storedWord_push16 hs back⟩

/-- A word stored where both bytes are writable reads back (R46, R47). -/
theorem State.read16_of_storedWord {s t : State} {x v : Word} (h : StoredWord s t x v) (hlo : 0x2000 ≤ x.toNat)
    (hhi : 0x2000 ≤ (x + 1).toNat) : t.read16 x = v := by
  have hne : x + 1 ≠ x := by bv_omega
  have low : t.read x = loByte v := by rw [h x, if_pos ⟨rfl, hlo⟩, loByte_eq]
  have high : t.read (x + 1) = hiByte v := by
    rw [h (x + 1), if_neg (mt And.left hne), if_pos ⟨rfl, hhi⟩, hiByte_eq]
  calc t.read16 x = joinBytes (t.read (x + 1)) (t.read x) := rfl
    _ = v := by rw [low, high, joinBytes_hi_lo]

/-- A return takes back a word pushed from `s`, when both stack bytes are writable: `PC` is the word, `SP` is that of
`s` (R144). -/
theorem State.returnTo_of_storedWord {s t : State} {v : Word} (hsp : t.sp = s.sp - 2)
    (h : StoredWord s t (s.sp - 2) v) (hlo : 0x2000 ≤ (s.sp - 2).toNat) (hhi : 0x2000 ≤ (s.sp - 1).toNat) :
    t.returnTo = { t with sp := s.sp, pc := v } := by
  have hsucc : s.sp - 2 + 1 = s.sp - 1 := by bv_omega
  have top : t.top16 = v := by
    rw [State.top16, hsp]
    exact State.read16_of_storedWord h hlo (hsucc ▸ hhi)
  have drop : t.dropTop = { t with sp := s.sp } := by
    rw [State.dropTop, hsp, BitVec.sub_add_cancel]
  rw [State.returnTo, top, drop, State.jump]

end Sys2Proof.Machine
end

section
namespace Sys2Proof.Proofs

open Machine Claims

/-- Settles O36: JMP and PCHL by their arms, each conditional jump by its row and its condition. -/
theorem jumps : Obligations.Jumps := by
  intro s addr
  refine ⟨rfl, rfl, fun j hj => ?_, withWord_eq 0xC3 addr, rfl⟩
  obtain ⟨hexec, hencode⟩ := exec_encode_of_mem_jumpsOn hj s addr
  refine ⟨fun hcond => ?taken, fun hcond => ?notTaken, hencode.trans (withWord_eq ..)⟩
  case taken => exact hexec.trans (congrArg _ (State.jumpIf_of_condTrue hcond addr))
  case notTaken => exact hexec.trans (congrArg _ (State.jumpIf_of_not_condTrue hcond addr))

/-- Settles O37: CALL and the restarts are `State.callTo`; RET takes back the word CALL stored. -/
theorem callsAndRestarts : Obligations.CallsAndRestarts := by
  intro s addr hs
  refine ⟨?call, withWord_eq 0xCD addr, fun x hx => ?restart⟩
  case call =>
    obtain ⟨hframe, hstored⟩ := State.callTo_storedWord hs addr (s.pc + 3)
    exact ⟨_, rfl, hframe, hstored, fun hlo hhi =>
      congrArg Host.Outcome.next (State.returnTo_of_storedWord rfl hstored hlo hhi)⟩
  case restart =>
    obtain ⟨hexec, hencode⟩ := exec_encode_of_mem_restarts hx s
    exact ⟨⟨_, hexec, State.callTo_storedWord hs _ _⟩, hencode⟩

/-- Settles O38: each conditional call by its row; taken it is `State.callTo`, not taken `State.advance`. -/
theorem conditionalCalls : Obligations.ConditionalCalls := by
  intro s addr hs c hc
  obtain ⟨hexec, hencode⟩ := exec_encode_of_mem_callsOn hc s addr
  refine ⟨fun hcond => ?taken, fun hcond => ?notTaken, hencode.trans (withWord_eq ..)⟩
  case taken =>
    exact ⟨_, hexec.trans (congrArg _ (State.callIf_of_condTrue hcond addr)), State.callTo_storedWord hs _ _⟩
  case notTaken => exact hexec.trans (congrArg _ (State.callIf_of_not_condTrue hcond addr))

/-- Settles O39: RET is `State.returnTo`, to the word at `SP`; each conditional return by its row and its condition. -/
theorem returns : Obligations.Returns := by
  rintro s _ rfl
  rw [← State.read16_eq]
  refine ⟨rfl, rfl, fun r hr => ?_⟩
  obtain ⟨hexec, hencode⟩ := exec_encode_of_mem_returnsOn hr s
  refine ⟨fun hcond => ?taken, fun hcond => ?notTaken, hencode⟩
  case taken => exact hexec.trans (congrArg _ (State.returnIf_of_condTrue hcond))
  case notTaken => exact hexec.trans (congrArg _ (State.returnIf_of_not_condTrue hcond))

/-- Settles O40: RET takes back the `PC` that the acceptance stored. -/
theorem returnFromInterrupt : Obligations.ReturnFromInterrupt := by
  intro s n hs hie hlo hhi
  obtain ⟨t, hcall, ht, hstored⟩ := hostCall_requestInterrupt_accepted hs n.isLt hie
  refine ⟨t, t.returnTo, hcall, rfl, ?_⟩
  calc t.returnTo = { t with sp := s.sp, pc := s.pc } :=
        State.returnTo_of_storedWord (congrArg State.sp ht) hstored hlo hhi
    _ = { s with mem := t.mem, ie := false, halt := false } := by rw [ht]

end Sys2Proof.Proofs
end

-- Proofs of the statements of spec family 44_stack_io_control, with the facts on PUSH, POP and the ports they rest on
section
/-! SUPPORT. PUSH and POP: what each runs, and that the pop finds what the push left (R143 to R148). -/

namespace Sys2Proof.Machine

open Claims

theorem exec_push_of_ne {p : Pair} (h : p ≠ .sp) (s : State) :
    exec (.push p) s = .next ((s.push16 (s.readPair p)).advance 1) := by
  cases p
  case sp => exact absurd rfl h
  case bc | de | hl => rfl

theorem exec_pop_of_ne {p : Pair} (h : p ≠ .sp) (s : State) :
    exec (.pop p) s = .next ((s.dropTop.writePair p s.top16).advance 1) := by
  cases p
  case sp => exact absurd rfl h
  case bc | de | hl => rfl

/-- What PUSH and PUSH PSW have in common (R145, R146). -/
theorem State.push16_advance_storedWord {s : State} (hs : s.Inv) (v n : Word) :
    let t := (s.push16 v).advance n
    t = { s with mem := t.mem, sp := s.sp - 2, pc := s.pc + n } ∧ StoredWord s t (s.sp - 2) v :=
  ⟨rfl, State.storedWord_push16 hs v⟩

/-- `pop16()` returns the byte at `SP +16 1` as the high one and the byte at `SP` as the low one (R144). -/
theorem State.top16_eq_joinBytes (s : State) : s.top16 = joinBytes (s.read (s.sp + 1)) (s.read s.sp) := rfl

/-- What a pop finds on top after a push, where both stack bytes are writable: the pushed word, to which a return would
go (R144). -/
theorem State.top16_push16_advance {s : State} (hs : s.Inv) (v n : Word) (hlo : 0x2000 ≤ (s.sp - 2).toNat)
    (hhi : 0x2000 ≤ (s.sp - 1).toNat) : ((s.push16 v).advance n).top16 = v :=
  have hreturn := State.returnTo_of_storedWord (t := (s.push16 v).advance n) rfl (State.storedWord_push16 hs v) hlo hhi
  congrArg State.pc hreturn

/-- Dropping what was pushed gives `SP` back, wherever the stack lies (R143, R144). -/
theorem State.dropTop_push16_advance (s : State) (v n : Word) :
    ((s.push16 v).advance n).dropTop = { s with mem := (s.push16 v).mem, pc := s.pc + n } := by
  rw [State.dropTop, State.advance_sp, State.push16_sp, BitVec.sub_add_cancel]
  rfl

/-- A pair written with what it holds stays as it is. -/
theorem State.writePair_of_readPair_eq {s : State} {p : Pair} {v : Word} (h : s.readPair p = v) :
    s.writePair p v = s := by
  subst h
  cases p
  case sp => rfl
  case bc | de | hl => simp only [State.readPair, State.writePair, hiByte_joinBytes, loByte_joinBytes]

end Sys2Proof.Machine
end

section
/-! SUPPORT. The ports, each by its number (R152 to R159). -/

namespace Sys2Proof.Machine

/-- R154, over numbers. -/
theorem State.shiftResult_toNat (s : State) :
    s.shiftResult.toNat = s.shift.toNat / 2 ^ (8 - s.shamt.toNat) % 256 := by
  rw [State.shiftResult, BitVec.toNat_setWidth, BitVec.toNat_ushiftRight, Nat.shiftRight_eq_div_pow]

theorem State.portIn_of_unmapped (s : State) {port : Byte} (h1 : port ≠ 1) (h2 : port ≠ 2) (h3 : port ≠ 3) :
    s.portIn port = { s with a := Config.portDraw s.draws, draws := s.draws + 1 } := by
  obtain ⟨h, _⟩ | ⟨h, _⟩ | ⟨h, _⟩ | ⟨_, _, _, h⟩ := s.portIn_cases port
  · exact absurd h h1
  · exact absurd h h2
  · exact absurd h h3
  · exact h

theorem State.portOut_of_unmapped (s : State) {port : Byte} (h2 : port ≠ 2) (h4 : port ≠ 4) :
    s.portOut port = s := by
  obtain ⟨h, _⟩ | ⟨h, _⟩ | ⟨_, _, h⟩ := s.portOut_cases port
  · exact absurd h h2
  · exact absurd h h4
  · exact h

/-- The shift-data port moves the high byte of the shift register down and puts A above it (R158). -/
theorem State.portOut_shiftData (s : State) : (s.portOut 4).shift = joinBytes s.a (hiByte s.shift) := by
  have hhigh : (hiByte s.shift).setWidth 16 = s.shift >>> 8 := by
    have := s.shift.isLt
    apply BitVec.eq_of_toNat_eq
    rw [BitVec.toNat_setWidth, hiByte_toNat, BitVec.toNat_ushiftRight, Nat.shiftRight_eq_div_pow]
    omega
  rw [joinBytes_eq, hhigh, BitVec.or_comm]
  rfl

end Sys2Proof.Machine
end

section
namespace Sys2Proof.Proofs

open Machine Claims

/-- Settles O8: well-formed instructions run; the decoder accepts no others, PUSH SP and POP SP among them. -/
theorem wellFormedInstructionsRun : Obligations.WellFormedInstructionsRun := by
  refine ⟨fun _ s h => exec_of_wellFormed h s, fun _ => ⟨rfl, rfl⟩, fun i hi bytes rest hdec => ?_⟩
  obtain ⟨hwf, -⟩ := wellFormed_and_encode_of_decode_ok hdec
  exact Bool.noConfusion (hi.symm.trans hwf)

/-- Settles O41: each is `State.push16` of its word, then `State.advance`. -/
theorem pushes : Obligations.Pushes := by
  intro s hs
  exact ⟨fun p hp => ⟨⟨_, exec_push_of_ne hp s, State.push16_advance_storedWord hs _ 1⟩, by cases p <;> rfl⟩,
    ⟨_, rfl, State.push16_advance_storedWord hs _ 1⟩, rfl⟩

/-- Settles O42: the popped word's high byte is the byte at `SP + 1`, its low byte the byte at `SP`. -/
theorem pops : Obligations.Pops := by
  rintro s lo hi rfl rfl
  have hhi : hiByte s.top16 = s.read (s.sp + 1) := by rw [State.top16_eq_joinBytes, hiByte_joinBytes]
  have hlo : loByte s.top16 = s.read s.sp := by rw [State.top16_eq_joinBytes, loByte_joinBytes]
  rw [← hhi, ← hlo]
  exact ⟨rfl, rfl, rfl, rfl, fun p => by cases p <;> rfl, rfl⟩

/-- Settles O44: the pop takes back the word the push stored, and a word determines what it was made from. -/
theorem popUndoesPush : Obligations.PopUndoesPush := by
  intro s hs hlo hhi
  have hpc : s.pc + 1 + 1 = s.pc + 2 := BitVec.add_assoc ..
  refine ⟨fun p hp => ⟨_, _, exec_push_of_ne hp s, exec_pop_of_ne hp _, ?pair⟩, ⟨_, _, rfl, rfl, ?psw⟩⟩
  case pair =>
    rw [State.top16_push16_advance hs _ 1 hlo hhi, State.dropTop_push16_advance,
      State.writePair_of_readPair_eq (by cases p <;> rfl), State.advance, hpc, State.advance_mem]
  case psw =>
    rw [State.top16_push16_advance hs _ 1 hlo hhi, State.dropTop_push16_advance, hiByte_joinBytes, loByte_joinBytes,
      Flags.unpack_pack, State.advance, hpc, State.advance_mem]

/-- Settles O46: the ports 2 and 4 by what their latch then holds, every other port as no change. -/
theorem portOutput : Obligations.PortOutput := by
  intro s port
  refine ⟨⟨_, rfl, rfl, BitVec.toNat_setWidth ..⟩, ⟨_, rfl, rfl, ?shift⟩, fun h2 h4 => ?unmapped, rfl⟩
  case shift =>
    have hshift := congrArg BitVec.toNat s.portOut_shiftData
    rw [joinBytes_toNat, hiByte_toNat, Nat.add_comm] at hshift
    exact hshift
  case unmapped =>
    rw [exec_outp, execOutp, s.portOut_of_unmapped h2 h4]
    rfl

/-- Settles O45: the latches, the shift result over numbers, and the draw at every other port. -/
theorem portInput : Obligations.PortInput := by
  intro s port
  refine ⟨rfl, rfl, ⟨_, rfl, rfl, s.shiftResult_toNat⟩, fun h1 h2 h3 => ?unmapped, rfl⟩
  rw [exec_inp, execInp, s.portIn_of_unmapped h1 h2 h3]
  exact ⟨_, rfl, rfl⟩

/-- Settles O47: each arm writes its latch, then `State.advance`. -/
theorem machineControl : Obligations.MachineControl :=
  fun _ => ⟨rfl, rfl, rfl, rfl, rfl, rfl, rfl, rfl⟩

end Sys2Proof.Proofs
end

-- Proof of the statement of spec family 60_exceptions, with the fact on single bits of a byte it rests on
section
/-! SUPPORT. The byte that the input setter writes, bit by bit (R176). -/

namespace Sys2Proof.Machine

/-- The bits below 8 of `setBit`: setting is an OR with the mask of bit `k`, clearing an AND with its complement. -/
theorem getLsbD_setBit (w : Byte) (k : Fin 8) (v : Bool) {j : Nat} (hj : j < 8) :
    (setBit w k v).getLsbD j = if j = k.val then v else w.getLsbD j := by
  have hmask : (1#8 <<< k.val).getLsbD j = decide (j = k.val) := by
    rw [← BitVec.twoPow_eq, BitVec.getLsbD_twoPow, decide_eq_true k.isLt, Bool.true_and]
    exact decide_eq_decide.mpr eq_comm
  cases v
  case true =>
    rw [setBit, if_pos rfl, BitVec.getLsbD_or, hmask]
    by_cases h : j = k.val <;> simp [h]
  case false =>
    rw [setBit, if_neg Bool.false_ne_true, BitVec.getLsbD_and, BitVec.getLsbD_not, hmask]
    by_cases h : j = k.val <;> simp [h, hj]

end Sys2Proof.Machine
end

section
namespace Sys2Proof.Proofs

open Machine

/-- Settles O60: the new latch byte is `setBit` of the old one; the snapshot is copied field by field. -/
theorem inputSetterAndSnapshot : Obligations.InputSetterAndSnapshot :=
  fun _ k v => ⟨⟨_, rfl, fun _ hj => getLsbD_setBit _ k v hj⟩, ⟨_, rfl, fun _ hj => getLsbD_setBit _ k v hj⟩, rfl⟩

end Sys2Proof.Proofs
end
